-- ==== Sys2Proof/Word.lean ====
section
/-!
DEFINITION. The word types of the block (00_scope.md section 6): every value is an unsigned bit vector, bit 0 the least
significant; slots and lanes are indexes, not words; times are rational numbers. A port-wide value is a `BitVec` of the run's own PORT_W
(Machine.Platform.portW, rules R10 to R13, R20, D2), so it has no abbreviation here.
-/

namespace Sys2Proof

/-- A 16-bit value of the encoder: the speed operand (SPEED_W), the payload inside the encoder (ENC_W, decision D1 of the spec), the
frame (FRAME_W) (rules R46, R47, R60). -/
abbrev Word16 := BitVec 16

/-- Field `a` of a request as an unsigned number: ATTACH takes a pin identifier from its low PIN_ID_W bits, SET_THROTTLE a mask from its
low PORT_W bits, and higher bits are ignored (rule R52). The widths are the run's, so the operation's text does not fix them. -/
abbrev Operand := Nat

/-- A slot number, 0 to 15: the index of a timeline entry and the value of `tx.slot` (SLOTS = 16, rules R17, R30). -/
abbrev Slot := Fin 16

/-- A lane, the number of one bit position of the port, from 0; a port has PORT_W of them (rules R20, R96). -/
abbrev Lane := Nat

/-- A time or a duration, in milliseconds. The spec's time is real-valued (rule R87); a rational number is plain data that can be compared,
and there is one between any two times. DESIGN CHOICE, unsafe; assumption 4. -/
abbrev Time := Rat

end Sys2Proof
end

