-- ==== Sys2Proof/Config.lean ====
section
/-!
DEFINITION. What one machine fixes: the encoder's limit, the defaults the spec gives for its parameters, and the values the spec leaves
open (opaque, without a body: nothing can be proved about which value they have). The parameters a run may vary are fields of
Machine.Platform (Machine/State.lean); the constants here are only their values in State.reset and in the table's words.
-/

namespace Sys2Proof.Config

/-- CMD_LIMIT: a payload-before-flag below this forces the telemetry flag (rules R60, R62). -/
def cmdLimit : BitVec 16 := 48#16

/-- PORT_W, a parameter of the spec: its default (00_scope.md section 5, D2). The value at reset of `Platform.portW`; assumption 1. -/
def portW : Nat := 8

/-- PIN_ID_W, a parameter of the spec: its default (00_scope.md section 5, D3). The value at reset of `Platform.pinIdW`; assumption 1. -/
def pinIdW : Nat := 8

/-- A_W, the width of a request word's field `a`, with the default parameters: the width the opcode table's words have (R52, R53). -/
def aW : Nat := max pinIdW portW

/-- ATTACH_CLEARS_ACTIVE, resolved `true` by the spec (90_conflicts.md C3, decision D6). The value at reset of
`Platform.attachClearsActive`, which a claim may also take as `false`. -/
def attachClearsActive : Bool := true

/-- T_FRAME at reset: the spec's default of 2 ms (00_scope.md section 5, R116). -/
def tFrame : Time := 2

/-- T_SHORT, open in the spec (D12, U17): any value. -/
opaque tShort : Time
/-- T_MID, open in the spec (D12, U17): any value. -/
opaque tMid : Time
/-- T_BIT, open in the spec (D12, U17): any value. -/
opaque tBit : Time
/-- T_ENTRY, open in the spec (D12, U17): any value. -/
opaque tEntry : Time
/-- T_EXIT, open in the spec (D12, U17): any value. -/
opaque tExit : Time

/-- The platform's table `pin_mask`, open in the spec (D3, U2, U6): entry `p` is the mask of pin identifier `p`. -/
opaque pinMask : List (BitVec portW)

/-- PORT_0, the port register's value at reset, left free by the spec (R12, R126, D14, U7); assumption 2. -/
opaque port0 : BitVec portW

/-- DIR_0, the direction register's value at reset, left free by the spec (R13, R126, D14, U7); assumption 2. -/
opaque dir0 : BitVec portW

/-- The timer's phase at reset, unspecified (R19, R126); State.reset takes it modulo T_FRAME; assumption 3. -/
opaque tmrCount0 : Time

end Sys2Proof.Config
end

