-- ==== Sys2Proof/Syntax.lean ====
section
/-!
DEFINITION. The operations of the block as syntax: one constructor per row of spec/opcode_table.json (30_encoding.md rule R53),
and the words that have a bit-level form.
-/

namespace Sys2Proof

/-- One constructor per row of the operation and format table (rule R53). Requests of the host, the pure encoder, the
micro-steps of the two host operations (R75, R79), the steps of the timer and the transmitter (R86 to R95), the composite FIRE
(R88), and the six data formats (R46 to R51). -/
inductive Instr where
  /-- NOP, `op` 00: no request (R52). -/
  | nop
  /-- ATTACH pin (R71). -/
  | attach (pin : Operand)
  /-- SET_THROTTLE binding, speed (R77). -/
  | setThrottle (binding : Operand) (speed : Word16)
  /-- REQ_RESERVED, `op` 11: not an operation of the block (R52, U9). -/
  | reqReserved
  /-- ENCODE speed (R60), written `ENC s` (R58). -/
  | encode (speed : Word16)
  /-- DIRSET pin, the first micro-step of ATTACH (R75, R59). -/
  | dirset (pin : Operand)
  /-- TMRCFG (R75, R73). -/
  | tmrcfg
  /-- TLC i: clear timeline entry i (R75). -/
  | tlc (i : Slot)
  /-- AMCLR: clear `activeMask` (R75). -/
  | amclr
  /-- AMOR: merge the new pin and return the binding (R75). -/
  | amor
  /-- LATCH binding, speed, the first micro-step of SET_THROTTLE (R79, R59). -/
  | latch (binding : Operand) (speed : Word16)
  /-- TLW i: update timeline entry i (R79). -/
  | tlw (i : Slot)
  /-- TIMER_FIRE: the timer event (R86). -/
  | timerFire
  /-- BURST_ENTER: interrupt acceptance (R90). -/
  | burstEnter
  /-- EMIT_H: first port write of a slot (R91). -/
  | emitH
  /-- EMIT_M: second port write of a slot (R92). -/
  | emitM
  /-- EMIT_L: third port write of a slot (R93). -/
  | emitL
  /-- BURST_EXIT: interrupt return (R95). -/
  | burstExit
  /-- FIRE: a firing and its whole burst as one transition (R88, R59). -/
  | fire
  /-- F-PAYLOAD: the 12-bit payload with fields S and T (R46). -/
  | fPayload (s : BitVec 11) (t : BitVec 1)
  /-- F-FRAME: the 16-bit frame with fields S, T and C (R47). -/
  | fFrame (s : BitVec 11) (t : BitVec 1) (c : BitVec 4)
  /-- F-TIMELINE: the frame the timeline holds for a lane (R49). -/
  | fTimeline (lane : Lane)
  /-- SYM0: the pulse that carries bit value 0 (R50). -/
  | sym0
  /-- SYM1: the pulse that carries bit value 1 (R50). -/
  | sym1
  /-- F-BURST: the sixteen symbols a burst shows on a lane (R51). -/
  | fBurst (lane : Lane)
  deriving DecidableEq, Repr

/-- A word in one of the table's bit-level forms: F-REQ (2 + A_W + 16 bits, A_W being the width `aw` of its field `a`: 26 bits with the
default parameters), the operand word of ENCODE (16), F-PAYLOAD (12), F-FRAME (16). The rows with "encoding" null have none. -/
inductive CodeWord where
  | request (aw : Nat) (w : BitVec (aw + 18))
  | operand (w : Word16)
  | payload (w : BitVec 12)
  | frame (w : BitVec 16)
  deriving DecidableEq, Repr

/-- Why a number of bits is no word of the table. -/
inductive DecodeError where
  /-- No form of the table has this length. -/
  | noFormOfLength (nbits : Nat)
  /-- The number has a bit outside the form's width. -/
  | bitsOutsideForm (nbits : Nat)
  deriving DecidableEq, Repr

end Sys2Proof
end

