-- ==== Sys2Proof/WellFormed.lean ====
section
/-!
DEFINITION. Which operations may be asked for in a request word with a field `a` of `aw` bits. The block refuses no operand
(30_encoding.md rule R55: every speed, every mask and every pin identifier is accepted), and slots are in range by their type; "The only
refused encoding in the whole spec is request op = 11".
-/

namespace Sys2Proof

/-- Not the reserved request code (rules R52, R55). -/
def Instr.notReserved : Instr → Bool
  | .reqReserved => false
  | .nop | .attach _ | .setThrottle _ _ | .encode _ => true
  | .dirset _ | .tmrcfg | .tlc _ | .amclr | .amor | .latch _ _ | .tlw _ => true
  | .timerFire | .burstEnter | .emitH | .emitM | .emitL | .burstExit | .fire => true
  | .fPayload _ _ | .fFrame _ _ _ | .fTimeline _ | .sym0 | .sym1 | .fBurst _ => true

/-- The operand of an operation that has a request word, or is a micro-step of one, fits in a field of `aw` bits (rule R52). -/
def Instr.fits (aw : Nat) : Instr → Bool
  | .attach a | .dirset a | .setThrottle a _ | .latch a _ => decide (a < 2 ^ aw)
  | .nop | .reqReserved | .encode _ => true
  | .tmrcfg | .tlc _ | .amclr | .amor | .tlw _ => true
  | .timerFire | .burstEnter | .emitH | .emitM | .emitL | .burstExit | .fire => true
  | .fPayload _ _ | .fFrame _ _ _ | .fTimeline _ | .sym0 | .sym1 | .fBurst _ => true

/-- Both checks, for request words whose field `a` has `aw` bits. -/
def Instr.wellFormed (aw : Nat) (i : Instr) : Bool := i.notReserved && i.fits aw

end Sys2Proof
end

