-- ==== Sys2Proof/Decode.lean ====
section
/-!
DEFINITION. The decoder and the encoder of the table's bit-level forms: the request word F-REQ (30_encoding.md rule R52), the operand
word of ENCODE (R60), F-PAYLOAD (R46) and F-FRAME (R47).
-/

namespace Sys2Proof

/-- Field `op` of a request word, bits `[A_W+17 : A_W+16]` (R52). -/
def reqOp {aw : Nat} (w : BitVec (aw + 18)) : BitVec 2 := w.extractLsb' (aw + 16) 2

/-- Field `a` of a request word, bits `[A_W+15 : 16]` (R52). -/
def reqA {aw : Nat} (w : BitVec (aw + 18)) : BitVec aw := w.extractLsb' 16 aw

/-- Field `speed` of a request word, bits `[15:0]` (R52). -/
def reqSpeed {aw : Nat} (w : BitVec (aw + 18)) : Word16 := w.extractLsb' 0 16

/-- A request word from its three fields (R52). -/
def reqMake {aw : Nat} (op : BitVec 2) (a : BitVec aw) (speed : Word16) : BitVec (aw + 18) :=
  (op ++ a ++ speed).cast (by omega)

/-- The speed field of an ATTACH, and both operands of NOP and of the reserved code, are ignored (R52). -/
def decodeRequest {aw : Nat} (w : BitVec (aw + 18)) : Instr :=
  if reqOp w = 0#2 then .nop
  else if reqOp w = 1#2 then .attach (reqA w).toNat
  else if reqOp w = 2#2 then .setThrottle (reqA w).toNat (reqSpeed w)
  else .reqReserved

/-- F-PAYLOAD: S is `[11:1]`, T is `[0]` (R46). -/
def decodePayload (w : BitVec 12) : Instr := .fPayload (w.extractLsb' 1 11) (w.extractLsb' 0 1)

/-- F-FRAME: S is `[15:5]`, T is `[4]`, C is `[3:0]` (R47). -/
def decodeFrame (w : BitVec 16) : Instr := .fFrame (w.extractLsb' 5 11) (w.extractLsb' 4 1) (w.extractLsb' 0 4)

/-- Decode a word of any of the four forms; total, with the reserved request code decoded to its own constructor. -/
def decode : CodeWord → Instr
  | .request _ w => decodeRequest w
  | .operand w => .encode w
  | .payload w => decodePayload w
  | .frame w => decodeFrame w

/-- The form that has a given length, with the default parameters: 26 bits (32 in whole bytes) a request word, 16 the operand word of ENCODE, 12 a payload.
DESIGN CHOICE, safe: 16 bits are read as ENCODE's operand, since of the 16-bit forms only ENCODE is an operation; assumption 9. -/
def codeWordOf (nbits w : Nat) : Except DecodeError CodeWord :=
  if nbits = 26 ∨ nbits = 32 then
    if w < 2 ^ 26 then .ok (.request Config.aW (BitVec.ofNat (Config.aW + 18) w)) else .error (.bitsOutsideForm nbits)
  else if nbits = 16 then
    if w < 2 ^ 16 then .ok (.operand (BitVec.ofNat 16 w)) else .error (.bitsOutsideForm nbits)
  else if nbits = 12 then
    if w < 2 ^ 12 then .ok (.payload (BitVec.ofNat 12 w)) else .error (.bitsOutsideForm nbits)
  else .error (.noFormOfLength nbits)

/-- Decode a number of `nbits` bits, or say by name why it is no word of the table. -/
def decodeSized (nbits w : Nat) : Except DecodeError Instr := (codeWordOf nbits w).map decode

/-- The instruction the decoder reads from a table row's word, bit 0 its least significant bit. -/
def decodeTableWord (nbits w : Nat) : Option Instr :=
  match decodeSized nbits w with
  | .ok i => some i
  | .error _ => none

/-- The word of an operation that has a bit-level form, in request words with a field `a` of `aw` bits; bits the form ignores are 0 (R52).
Micro-steps, events and the formats with "encoding" null have none. -/
def encode (aw : Nat) : Instr → Option CodeWord
  | .nop => some (.request aw (reqMake 0#2 0 0))
  | .attach pin => some (.request aw (reqMake 1#2 (BitVec.ofNat aw pin) 0))
  | .setThrottle m speed => some (.request aw (reqMake 2#2 (BitVec.ofNat aw m) speed))
  | .reqReserved => some (.request aw (reqMake 3#2 0 0))
  | .encode speed => some (.operand speed)
  | .fPayload s t => some (.payload (s ++ t))
  | .fFrame s t c => some (.frame (s ++ t ++ c))
  | .dirset _ | .tmrcfg | .tlc _ | .amclr | .amor | .latch _ _ | .tlw _ => none
  | .timerFire | .burstEnter | .emitH | .emitM | .emitL | .burstExit | .fire => none
  | .fTimeline _ | .sym0 | .sym1 | .fBurst _ => none

end Sys2Proof
end

