-- ==== Sys2Proof/Machine/State.lean ====
section
/-!
DEFINITION. The state of the machine as plain data: every piece of state of 10_state.md, the output trace and the response channel
of the block's boundary (R23, R99), the parameters fixed for a run (R20), and the schedule of what the outside world does (R20).
The block has no byte-addressed memory (R21, R30): its addressable storage is the timeline and the port.
-/

namespace Sys2Proof.Machine

/-- `tx.state` (R17). -/
inductive TxState where
  | idle
  | armed
  | emit
  deriving DecidableEq, Repr

/-- `tx.phase` (R17): the next port write of the current slot, or `x`, slot 15's last write done and only BURST_EXIT left. -/
inductive Phase where
  | h
  | m
  | l
  | x
  deriving DecidableEq, Repr

/-- The burst sequencer, in place of a program counter (R17). -/
structure Tx where
  state : TxState
  slot  : Slot
  phase : Phase
  deriving DecidableEq, Repr

/-- `fg.op` (R18). -/
inductive FgOp where
  | none
  | attach
  | setThrottle
  deriving DecidableEq, Repr

/-- The foreground operation in progress (R18). -/
structure Fg (w : Nat) where
  op    : FgOp
  /-- The frame ENCODE produced, latched before the first timeline write. -/
  frame : Word16
  mask  : BitVec w
  /-- The number of timeline entries already written or cleared, 0 to 16. -/
  idx   : Fin 17
  /-- The ATTACH micro-step reached (3 bits). -/
  step  : Fin 8
  deriving DecidableEq, Repr

/-- One event of the output trace, `(n, i, ph, v)`, and the time it carries in the timed model (R99, R87). -/
structure PortEvent (w : Nat) where
  burst : Nat
  slot  : Slot
  phase : Phase
  value : BitVec w
  time  : Time
  deriving DecidableEq, Repr

/-- The two symbols of F-SYMBOL (R50). -/
inductive Symbol where
  | sym0
  | sym1
  deriving DecidableEq, Repr

/-- What an operation gives back to whoever asked for it: the binding ATTACH returns on the response channel (R23, R74), the frame
ENCODE returns (R60), and the value of a data format that is evaluated (assumption 8). -/
inductive Answer (w : Nat) where
  /-- The PinBinding of an ATTACH (R74). -/
  | binding (m : BitVec w)
  /-- The frame of an ENCODE (R60). -/
  | frame (f : Word16)
  /-- A payload as the encoder holds it, in 16 bits (R46). -/
  | payload (p : Word16)
  /-- A frame's value and whether it passes `frame_ok` (R47, R57). -/
  | frameValue (f : Word16) (ok : Bool)
  /-- The frame the timeline holds for a lane (R49). -/
  | laneFrame (lane : Lane) (f : Word16)
  /-- A symbol: the levels after the H, M and L writes, the time high and the time low (R50). -/
  | pulse (sym : Symbol) (afterH afterM afterL : Bool) (high low : Time)
  /-- The symbols a burst shows on a lane, in the order of transmission; none on a lane that is not active (R51, R103). -/
  | laneBurst (lane : Lane) (symbols : List Symbol)
  deriving DecidableEq, Repr

/-- The timing parameters of 00_scope.md section 5 (assumption 4). -/
structure Timing where
  tShort : Time
  tMid   : Time
  tBit   : Time
  tEntry : Time
  tExit  : Time
  tFrame : Time
  deriving DecidableEq, Repr

/-- The parameters of the step relation, fixed for a whole run (R20). They stand in the state because `exec` and `step` have no other
argument, so that a claim about every state is a claim about every platform; no step writes them. Assumption 5. -/
structure Platform where
  /-- PORT_W (D2). -/
  portW : Nat
  /-- PIN_ID_W (D3). -/
  pinIdW : Nat
  /-- `pin_mask` as a table: entry `p` is the mask of pin identifier `p`, zero past the table's end (D3, R76 (c)). -/
  pinMask : List (BitVec portW)
  /-- ATTACH_CLEARS_ACTIVE (D6). -/
  attachClearsActive : Bool
  timing : Timing
  deriving DecidableEq, Repr

/-- One item of what the outside world does, in the order of the run's one total order (R20, R38). Assumption 6. -/
inductive Input where
  /-- Time passes, `n` of it; none where `n` is negative (R86, R87, R116). -/
  | elapse (n : Time)
  /-- The agent whose turn it is takes one step before the next item is looked at. -/
  | advance
  /-- A line of a program (R58, R59): an operation, a micro-step written out, `ENC s` or `FIRE`. -/
  | line (i : Instr)
  /-- A request word (R52), as a number, carried out with no firing inside the operation (R58: a line runs to completion before the next). -/
  | request (w : Nat)
  /-- A request word carried out micro-step by micro-step (R59, R75, R79): firings may fall between its micro-steps. -/
  | requestStepwise (w : Nat)
  deriving DecidableEq, Repr

/-- The block with a port of `w` lanes. Rule numbers name the spec's definition of each field. -/
structure Block (w : Nat) where
  /-- The timeline register file (R10). -/
  timeline : Vector (BitVec w) 16
  /-- The lanes bursts drive (R11). -/
  activeMask : BitVec w
  /-- The output data register (R12). -/
  port : BitVec w
  /-- The direction register (R13). -/
  dir : BitVec w
  /-- The timer has been configured and started (R14). -/
  timerConfigured : Bool
  /-- The global interrupt enable (R15). -/
  ie : Bool
  /-- A firing not yet accepted (R16). -/
  tmrPending : Bool
  /-- The burst sequencer (R17). -/
  tx : Tx
  /-- The foreground operation in progress (R18). -/
  fg : Fg w
  /-- The phase of the timer: the time since it started or last fired (R19). -/
  tmrCount : Time
  /-- The time of the timed model (R87). -/
  now : Time
  /-- `t_0`: when the present or latest burst was entered (R87). -/
  burstStart : Time
  /-- How many bursts have been entered: the number `n` of the present or latest burst (R99). -/
  burstCount : Nat
  /-- The output trace, oldest event first (R99). -/
  trace : List (PortEvent w)
  /-- What has been given back on the response channel, oldest first (R23). -/
  answers : List (Answer w)
  deriving DecidableEq, Repr

/-- The machine: the run's parameters, the block with a port of their PORT_W lanes, and the schedule. -/
structure State where
  /-- The run's parameters (R20). -/
  platform : Platform
  block : Block platform.portW
  /-- What the outside world is still going to do, next first (R20). -/
  inputs : List Input
  deriving DecidableEq, Repr

/-- The block has no synchronous exception and its step function no fault outcome of its own (60_exceptions.md rule R105: "The set of
synchronous exceptions is empty."), so there is no reason to fault: safe, nothing raises one. -/
inductive Fault where
  deriving DecidableEq, Repr

/-- Why an operation is given no meaning in a state: inputs outside the block's interface and steps that are not enabled there (R105). Every
one of them is safe: the machine stops where the spec gives no transition. -/
inductive Refusal where
  /-- Raised by an arm of `exec` whose instruction has no meaning yet. Safe. -/
  | notModelled (mnemonic : String)
  /-- Raised by REQ_RESERVED: request `op` = 11 is not an operation of the block (R52, U9). Safe. -/
  | reservedRequest
  /-- Raised by a host operation, a micro-step or FIRE while a burst is in progress: the host takes no step then (R85, R88). Safe. -/
  | burstInProgress
  /-- Raised by a host operation while another one is in progress (R70, D18, U15). Safe. -/
  | operationInProgress
  /-- Raised by a micro-step that is not the one due in the operation in progress (R75, R79). Safe. -/
  | microStepOutOfOrder
  /-- Raised by TIMER_FIRE and FIRE before the timer is configured (R86, R88). Safe. -/
  | timerNotConfigured
  /-- Raised by BURST_ENTER (and by FIRE through it) when its precondition fails (R90, R108). Safe. -/
  | interruptNotAcceptable
  /-- Raised by EMIT_H, EMIT_M, EMIT_L and BURST_EXIT when the sequencer is elsewhere: "No other transition exists" (R89). Safe. -/
  | burstStepOutOfOrder
  deriving DecidableEq, Repr

/-- What `exec` and `step` answer. -/
abbrev Result := Host.Outcome State Fault Refusal

/-- The parameters at reset: the spec's default widths, its resolved value of ATTACH_CLEARS_ACTIVE and its default T_FRAME, the rest open. -/
def Platform.reset : Platform where
  portW := Config.portW
  pinIdW := Config.pinIdW
  pinMask := Config.pinMask
  attachClearsActive := Config.attachClearsActive
  timing :=
    { tShort := Config.tShort, tMid := Config.tMid, tBit := Config.tBit, tEntry := Config.tEntry, tExit := Config.tExit,
      tFrame := Config.tFrame }

/-- The block right after reset, for the three values the spec leaves unspecified: `PORT`, `DIR` and the timer's phase
(70_reset_and_hazards.md rule R126). `tx.slot`, `tx.phase` and the fields of `fg` other than `op` are don't-care (R17, R18, assumption 7). -/
def Block.reset {w : Nat} (port dir : BitVec w) (phase : Time) : Block w where
  timeline := Vector.replicate 16 0
  activeMask := 0
  port := port
  dir := dir
  timerConfigured := false
  ie := true
  tmrPending := false
  tx := { state := .idle, slot := 0, phase := .h }
  fg := { op := .none, frame := 0, mask := 0, idx := 0, step := 0 }
  tmrCount := phase
  now := 0
  burstStart := 0
  burstCount := 0
  trace := []
  answers := []

/-- The machine right after reset (rule R126), with the free values of the spec (assumptions 2 and 3) and an empty schedule. -/
def State.reset : State where
  platform := Platform.reset
  block := Block.reset Config.port0 Config.dir0 (Int.fract (Config.tmrCount0 / Config.tFrame) * Config.tFrame)
  inputs := []

end Sys2Proof.Machine
end

