-- ==== Sys2Proof/Machine/Flags.lean ====
section
/-!
DEFINITION. Every flag computation of the spec. The block has no condition codes (10_state.md section 4): what it computes as one bit
is the telemetry flag of a frame (R62), the frame check (R57), the acceptance of the timer interrupt (R108), which context runs
(R115), and the premise on the timing parameters (R9).
-/

namespace Sys2Proof.Machine

/-- The telemetry flag: the whole 16-bit payload-before-flag, unsigned, is below 48 (R62). -/
def telemetryFlag (p0 : Word16) : Bool := p0.ult Config.cmdLimit

/-- `frame_ok`: the low nibble is the XOR of the other three (R57). -/
def frameOk (f : Word16) : Bool :=
  f.extractLsb' 0 4 == (f.extractLsb' 12 4 ^^^ f.extractLsb' 8 4 ^^^ f.extractLsb' 4 4)

/-- The precondition of BURST_ENTER: a firing is pending, interrupts are enabled and the sequencer is idle (R90, R108). -/
def Block.interruptAcceptable {w : Nat} (b : Block w) : Bool := b.tmrPending && b.ie && decide (b.tx.state = .idle)

/-- The interrupt context runs: between BURST_ENTER and BURST_EXIT (R115). -/
def Block.inBurst {w : Nat} (b : Block w) : Bool := decide (b.tx.state ≠ .idle)

/-- A host operation is in progress (R18). -/
def Block.operationInProgress {w : Nat} (b : Block w) : Bool := decide (b.fg.op ≠ .none)

/-- T_BURST, the time a burst occupies the processor (R104). -/
def Timing.burstDuration (t : Timing) : Time := t.tEntry + 16 * t.tBit + t.tExit

/-- What the timing parameters obey (00_scope.md rule R9), and that T_ENTRY and T_EXIT are durations, not negative (R87; DEDUCED, assumption 4).
A premise of claims about time, read by no step. -/
def Timing.ok (t : Timing) : Bool :=
  decide (0 < t.tShort) && decide (0 < t.tMid) && decide (t.tShort + t.tMid < t.tBit) && decide (t.burstDuration ≤ t.tFrame) &&
    decide (0 ≤ t.tEntry) && decide (0 ≤ t.tExit)

end Sys2Proof.Machine
end

