-- ==== Sys2Proof/Machine/Operands.lean ====
section
/-!
DEFINITION. Every operand form of the spec: the request word of the run's own width (R52), the pin identifier and its mask (R71, D3), the binding
(R74), the frame assembled from the speed operand
(R48, R60 to R64), and a frame bit chosen by slot (R32, R78).
-/

namespace Sys2Proof.Machine

/-- A_W, the width of a request word's field `a` (R52). -/
def Platform.aW (p : Platform) : Nat := max p.pinIdW p.portW

/-- The pin identifier of an ATTACH: the low PIN_ID_W bits of the field `a` (R52). -/
def Platform.pinOf (p : Platform) (a : Operand) : BitVec p.pinIdW := BitVec.ofNat p.pinIdW a

/-- `pin_mask(pin)`, the platform's table, of the pin identifier in a field `a` (R71 step 1, D3). -/
def Platform.maskOf (p : Platform) (a : Operand) : BitVec p.portW := p.pinMask.getD (p.pinOf a).toNat 0

/-- The binding mask of a SET_THROTTLE: the low PORT_W bits of the field `a` (R52). -/
def Platform.bindingOf (p : Platform) (a : Operand) : BitVec p.portW := BitVec.ofNat p.portW a

/-- The operation a request word, given as a number, asks for (R52). -/
def Platform.requested (p : Platform) (r : Nat) : Instr := decode (.request p.aW (BitVec.ofNat (p.aW + 18) r))

/-- `p0`, the payload before the flag (R61). -/
def payloadBeforeFlag (speed : Word16) : Word16 := speed <<< 1

/-- The payload, with the telemetry flag in bit 0 (R62). -/
def payloadOf (speed : Word16) : Word16 :=
  payloadBeforeFlag speed ||| (BitVec.ofBool (telemetryFlag (payloadBeforeFlag speed))).setWidth 16

/-- `n` rounds of the checksum's folding: XOR the accumulator with the value, shift the value right by 4 (R63). -/
def foldRounds : Nat → Word16 → Word16 → Word16
  | 0, acc, _ => acc
  | n + 1, acc, v => foldRounds n (acc ^^^ v) (v >>> 4)

/-- The checksum: the low four bits of the accumulator after three rounds (R63). -/
def checksumOf (payload : Word16) : BitVec 4 := (foldRounds 3 0 payload).extractLsb' 0 4

/-- Frame assembly (R64). -/
def assembleFrame (payload : Word16) (checksum : BitVec 4) : Word16 := (payload <<< 4) ||| checksum.setWidth 16

/-- `encode(speed)`, the frame of a speed operand (R60). -/
def encodeSpeed (speed : Word16) : Word16 := assembleFrame (payloadOf speed) (checksumOf (payloadOf speed))

/-- The frame bit slot `i` carries: bit `15 - i`, most significant first (R32, R78). -/
def frameBit (f : Word16) (i : Slot) : Bool := f.getLsbD (15 - i.val)

end Sys2Proof.Machine
end

