-- ==== Sys2Proof/Machine/Ops.lean ====
section
/-!
DEFINITION. The named operations over the block's storage: the lane formulas of the port writes (R91 to R93, R96), the update of a timeline
entry (R78), the primitives TlRead, TlWrite and PortWrite (00_scope.md section 6), the writes of the single registers, interrupt entry
and return (R110, R112), the passing of time (R86, R87), and the shapes in which an operation answers.
-/

namespace Sys2Proof.Machine

/-- EMIT_H on every lane: active lanes high, the others as they were (R91, R96). -/
def raiseLanes {w : Nat} (port active : BitVec w) : BitVec w := port ||| active

/-- EMIT_M on every lane: active lanes whose entry bit is 0 drop (R92, R96). -/
def keepLanes {w : Nat} (port active entry : BitVec w) : BitVec w := port &&& (entry ||| ~~~active)

/-- EMIT_L on every lane: active lanes low (R93, R96). -/
def dropLanes {w : Nat} (port active : BitVec w) : BitVec w := port &&& ~~~active

/-- The entry update of SET_THROTTLE: the bits under the mask all become the frame bit (R78). -/
def entryUpdate {w : Nat} (entry mask : BitVec w) (bit : Bool) : BitVec w :=
  (entry &&& ~~~mask) ||| (if bit then mask else 0)

/-- The time of a port write after its burst's BURST_ENTER, and for phase X that of BURST_EXIT (R87). -/
def Timing.eventOffset (t : Timing) (slot : Slot) : Phase → Time
  | .h => t.tEntry + slot.val * t.tBit
  | .m => t.tEntry + slot.val * t.tBit + t.tShort
  | .l => t.tEntry + slot.val * t.tBit + t.tShort + t.tMid
  | .x => t.burstDuration

/-- TlRead (00_scope.md section 6). -/
def Block.tlRead {w : Nat} (b : Block w) (i : Slot) : BitVec w := b.timeline[i]

/-- TlWrite (00_scope.md section 6): one whole entry (R34). -/
def Block.tlWrite {w : Nat} (b : Block w) (i : Slot) (v : BitVec w) : Block w := { b with timeline := b.timeline.set i v }

/-- The sixteen entries at once, for the whole operations ATTACH and SET_THROTTLE (R71, R77). -/
def Block.setTimeline {w : Nat} (b : Block w) (t : Vector (BitVec w) 16) : Block w := { b with timeline := t }

/-- PortWrite (00_scope.md section 6): one write of the whole port and one event of the trace, with the time the timed model gives it
(R34, R37, R87, R99). -/
def Block.portWrite {w : Nat} (b : Block w) (t : Timing) (slot : Slot) (phase : Phase) (v : BitVec w) : Block w :=
  { b with
    port := v
    trace := b.trace ++
      [{ burst := b.burstCount, slot := slot, phase := phase, value := v, time := b.burstStart + t.eventOffset slot phase }] }

/-- A write of `activeMask` (R11, R34). -/
def Block.setActive {w : Nat} (b : Block w) (m : BitVec w) : Block w := { b with activeMask := m }

/-- The lanes of a mask become outputs; no lane stops being one (R13, R71). -/
def Block.makeOutputs {w : Nat} (b : Block w) (m : BitVec w) : Block w := { b with dir := b.dir ||| m }

/-- The one-time configuration and start of the timer; nothing on later calls (R73). The phase is not loaded: it goes on from its
unspecified value, which leaves the time to the first firing free (R87); assumption 3. -/
def Block.startTimer {w : Nat} (b : Block w) : Block w := if b.timerConfigured then b else { b with timerConfigured := true }

/-- A firing becomes pending; one that is already pending absorbs it (R86, R108). -/
def Block.raiseTimer {w : Nat} (b : Block w) : Block w := { b with tmrPending := true }

/-- The timer's phase (R19). -/
def Block.setTmrCount {w : Nat} (b : Block w) (n : Time) : Block w := { b with tmrCount := n }

/-- The time of the timed model (R87). -/
def Block.setNow {w : Nat} (b : Block w) (n : Time) : Block w := { b with now := n }

/-- The sequencer (R17). -/
def Block.setTx {w : Nat} (b : Block w) (t : Tx) : Block w := { b with tx := t }

/-- The operation in progress (R18). -/
def Block.setFg {w : Nat} (b : Block w) (f : Fg w) : Block w := { b with fg := f }

/-- Give a value back (R23, R60, R74). -/
def Block.answer {w : Nat} (b : Block w) (a : Answer w) : Block w := { b with answers := b.answers ++ [a] }

/-- Trap entry: mask interrupts, clear the pending flag, arm the sequencer; nothing is saved (R90, R110, R111). The burst gets the
next number (R99), and its time starts (R87). -/
def Block.enterInterrupt {w : Nat} (b : Block w) : Block w :=
  { b with
    ie := false
    tmrPending := false
    tx := { b.tx with state := .armed }
    burstStart := b.now
    burstCount := b.burstCount + 1 }

/-- Trap return: unmask interrupts, the sequencer idle; nothing is restored (R95, R112). -/
def Block.leaveInterrupt {w : Nat} (b : Block w) : Block w := { b with ie := true, tx := { b.tx with state := .idle } }

/-- The phase of a timer that has run for `count` since some firing: what is left of it after the periods in it (R19, R86). -/
def phaseOf (tFrame count : Time) : Time := Int.fract (count / tFrame) * tFrame

/-- A time `n`, not negative, passes with no step in it: the clock goes on, and so does a running timer, which fires if its phase reaches
T_FRAME. Every firing but the first finds the flag set and is lost (R86, R87, R104); a timer that is not running stands still (R19). -/
def Block.passTime {w : Nat} (b : Block w) (tFrame n : Time) : Block w :=
  let timer := b.setNow (b.now + n)
  if b.timerConfigured then
    if tFrame ≤ b.tmrCount + n then (timer.setTmrCount (phaseOf tFrame (b.tmrCount + n))).raiseTimer
    else timer.setTmrCount (b.tmrCount + n)
  else timer

/-- What the outside world is still going to do (R20). -/
def State.setInputs (s : State) (l : List Input) : State := { s with inputs := l }

/-- Do `f` after `r`, if `r` answered a next state. -/
def Result.andThen (r : Result) (f : State → Result) : Result :=
  match r with
  | .next s => f s
  | .fault e => .fault e
  | .refused e => .refused e

/-- A host operation or micro-step: the host takes a step only while no burst is in progress (R85, R88), and only one that is due. -/
def hostStep (s : State) (due : Bool) (why : Refusal) (b : Block s.platform.portW) : Result :=
  if s.block.inBurst then .refused .burstInProgress else if due then .next { s with block := b } else .refused why

/-- A new host operation: one at a time (R70, D18). -/
def hostOperation (s : State) (b : Block s.platform.portW) : Result :=
  hostStep s (!s.block.operationInProgress) .operationInProgress b

/-- A micro-step of the operation in progress (R75, R79). -/
def microStep (s : State) (due : Bool) (b : Block s.platform.portW) : Result := hostStep s due .microStepOutOfOrder b

/-- A step of the transmitter from the sequencer state it is defined in (R89). -/
def burstStep (s : State) (due : Bool) (b : Block s.platform.portW) : Result :=
  if due then .next { s with block := b } else .refused .burstStepOutOfOrder

/-- Give a value back and change nothing else. -/
def giveBack (s : State) (a : Answer s.platform.portW) : Result := .next { s with block := s.block.answer a }

end Sys2Proof.Machine
end

