-- ==== Sys2Proof/Machine/Requests.lean ====
section
/-!
DEFINITION. The request words as whole operations: NOP, ATTACH, SET_THROTTLE and the reserved code (30_encoding.md rule R52, 41_output_bank.md
rules R71 and R77: "Pseudocode of the whole operation"). What an interrupt can split is the sequence of micro-steps in Machine/Bank.lean.
-/

namespace Sys2Proof.Machine

/-- NOP: no request (R52). -/
def execNop (s : State) : Result := .next s

/-- What `activeMask` is after the clear of R71 step 5, which ATTACH_CLEARS_ACTIVE switches (R72, D6). -/
def State.clearedActive (s : State) : BitVec s.platform.portW := if s.platform.attachClearsActive then 0 else s.block.activeMask

/-- ATTACH, steps 1 to 7 of R71 with nothing between them; `fg` is left as the last micro-step leaves it (R75). -/
def execAttach (pin : Operand) (s : State) : Result :=
  let m := s.platform.maskOf pin
  hostOperation s <|
    ((((s.block.makeOutputs m).startTimer.setTimeline (Vector.replicate 16 0)).setActive (s.clearedActive ||| m)).setFg
      { s.block.fg with op := .none, mask := m, idx := 16, step := 0 }).answer (.binding m)

/-- The timeline after R77 step 3: for each entry, OR in the mask where the frame bit is 1 and AND it out where it is 0. -/
def throttleTimeline {w : Nat} (timeline : Vector (BitVec w) 16) (m : BitVec w) (frame : Word16) : Vector (BitVec w) 16 :=
  Vector.ofFn fun i : Slot => if frameBit frame i then timeline[i] ||| m else timeline[i] &&& ~~~m

/-- SET_THROTTLE, steps 1 to 3 of R77 with nothing between them; `fg` is left as the last micro-step leaves it (R79). -/
def execSetThrottle (binding : Operand) (speed : Word16) (s : State) : Result :=
  let m := s.platform.bindingOf binding
  hostOperation s <|
    (s.block.setTimeline (throttleTimeline s.block.timeline m (encodeSpeed speed))).setFg
      { s.block.fg with op := .none, mask := m, frame := encodeSpeed speed, idx := 16 }

/-- REQ_RESERVED: "`op` = `11` is refused by the model: it is not an operation of the block" (R52, U9). -/
def execReqReserved (_s : State) : Result := .refused .reservedRequest

end Sys2Proof.Machine
end

