-- ==== Sys2Proof/Machine/Bank.lean ====
section
/-!
DEFINITION. The micro-steps of ATTACH (41_output_bank.md rule R75) and of SET_THROTTLE (rule R79): the units the interrupt cannot split.
Each is taken only when it is the one due, which `fg` records (10_state.md rule R18).
-/

namespace Sys2Proof.Machine

/-- The ATTACH in progress has reached this value of `fg.step` (R75). -/
def Block.attachAt {w : Nat} (b : Block w) (step : Fin 8) : Bool := decide (b.fg.op = .attach) && decide (b.fg.step = step)

/-- DIRSET (R75). That it sets `fg.op` and zeroes `fg.idx` is read from R18 (assumption 10). -/
def execDirset (pin : Operand) (s : State) : Result :=
  let m := s.platform.maskOf pin
  hostOperation s <| (s.block.makeOutputs m).setFg { s.block.fg with op := .attach, mask := m, idx := 0, step := 1 }

/-- TMRCFG (R75, R73). -/
def execTmrcfg (s : State) : Result :=
  microStep s (s.block.attachAt 1) (s.block.startTimer.setFg { s.block.fg with step := 2 })

/-- TLC i (R75): the entries are cleared in ascending order. -/
def execTlc (i : Slot) (s : State) : Result :=
  microStep s (s.block.attachAt 2 && decide (s.block.fg.idx = i.castSucc))
    ((s.block.tlWrite i 0).setFg { s.block.fg with idx := i.succ, step := if i = 15 then 3 else 2 })

/-- AMCLR (R75, R72). -/
def execAmclr (s : State) : Result :=
  microStep s (s.block.attachAt 3) ((s.block.setActive s.clearedActive).setFg { s.block.fg with step := 4 })

/-- AMOR (R75): the merge and the binding (R74). -/
def execAmor (s : State) : Result :=
  microStep s (s.block.attachAt 4)
    (((s.block.setActive (s.block.activeMask ||| s.block.fg.mask)).setFg { s.block.fg with op := .none, step := 0 }).answer
      (.binding s.block.fg.mask))

/-- LATCH (R79): the frame is computed once, before the first write. -/
def execLatch (binding : Operand) (speed : Word16) (s : State) : Result :=
  hostOperation s <|
    s.block.setFg
      { s.block.fg with op := .setThrottle, mask := s.platform.bindingOf binding, frame := encodeSpeed speed, idx := 0 }

/-- TLW i (R79, R78): the entries are written in ascending order. -/
def execTlw (i : Slot) (s : State) : Result :=
  microStep s (decide (s.block.fg.op = .setThrottle) && decide (s.block.fg.idx = i.castSucc))
    ((s.block.tlWrite i (entryUpdate (s.block.tlRead i) s.block.fg.mask (frameBit s.block.fg.frame i))).setFg
      { s.block.fg with idx := i.succ, op := if i = 15 then .none else .setThrottle })

end Sys2Proof.Machine
end

