-- ==== Sys2Proof/Machine/Burst.lean ====
section
/-!
DEFINITION. The timer event and the steps of the burst transmitter (42_burst_transmitter.md rules R86 to R95), and FIRE, a firing with its
whole burst as one transition (R88).
-/

namespace Sys2Proof.Machine

/-- TIMER_FIRE (R86): "Enabled only when `timerConfigured` = 1"; it can occur during a burst. -/
def execTimerFire (s : State) : Result :=
  if s.block.timerConfigured then .next { s with block := s.block.raiseTimer } else .refused .timerNotConfigured

/-- BURST_ENTER, the acceptance of the timer interrupt (R90, R108). -/
def execBurstEnter (s : State) : Result :=
  if s.block.interruptAcceptable then .next { s with block := s.block.enterInterrupt } else .refused .interruptNotAcceptable

/-- The slot EMIT_H writes in: slot 0 from `Armed`, else the present one (R91). -/
def Tx.emitSlot (t : Tx) : Slot := if t.state = .armed then 0 else t.slot

/-- The sequencer stands in `Emit` at a phase (R89). -/
def Tx.emitting (t : Tx) (phase : Phase) : Bool := decide (t.state = .emit) && decide (t.phase = phase)

/-- EMIT_H (R91): from `Armed`, or from `Emit` in phase H. -/
def execEmitH (s : State) : Result :=
  burstStep s (decide (s.block.tx.state = .armed) || s.block.tx.emitting .h)
    ((s.block.portWrite s.platform.timing s.block.tx.emitSlot .h (raiseLanes s.block.port s.block.activeMask)).setTx
      { state := .emit, slot := s.block.tx.emitSlot, phase := .m })

/-- EMIT_M (R92): the only step that reads the timeline, and it reads one entry. -/
def execEmitM (s : State) : Result :=
  burstStep s (s.block.tx.emitting .m)
    ((s.block.portWrite s.platform.timing s.block.tx.slot .m
      (keepLanes s.block.port s.block.activeMask (s.block.tlRead s.block.tx.slot))).setTx { s.block.tx with phase := .l })

/-- EMIT_L (R93): the slot counter is not incremented at 15. -/
def execEmitL (s : State) : Result :=
  burstStep s (s.block.tx.emitting .l)
    ((s.block.portWrite s.platform.timing s.block.tx.slot .l (dropLanes s.block.port s.block.activeMask)).setTx
      (if s.block.tx.slot < 15 then { s.block.tx with slot := s.block.tx.slot + 1, phase := .h }
        else { s.block.tx with phase := .x }))

/-- BURST_EXIT, the return from the interrupt (R95). -/
def execBurstExit (s : State) : Result :=
  burstStep s (s.block.tx.emitting .x && decide (s.block.tx.slot = 15)) s.block.leaveInterrupt

/-- The three port writes of one slot, in the order H, M, L (R94). -/
def emitSlot (s : State) : Result := (execEmitH s).andThen fun s₁ => (execEmitM s₁).andThen execEmitL

/-- The port writes of `n` slots (R94). -/
def emitSlots : Nat → State → Result
  | 0, s => .next s
  | n + 1, s => (emitSlot s).andThen (emitSlots n)

/-- FIRE (R88 (b), R59): TIMER_FIRE, BURST_ENTER, the forty-eight port writes and BURST_EXIT as one indivisible transition of the
untimed model: no time passes in it, and its events carry their times after the BURST_ENTER. -/
def execFire (s : State) : Result :=
  if s.block.inBurst then .refused .burstInProgress
  else (execTimerFire s).andThen fun s₁ => (execBurstEnter s₁).andThen fun s₂ => (emitSlots 16 s₂).andThen execBurstExit

end Sys2Proof.Machine
end

