-- ==== Sys2Proof/Machine/Encoder.lean ====
section
/-!
DEFINITION. The frame encoder's one operation, ENCODE (40_frame_encoder.md).
-/

namespace Sys2Proof.Machine

/-- ENCODE (R60): the frame of the speed is given back; no state of the block is read or written, in any context (R67). The answer is
the combinational output, which the model records on `answers` (assumption 8). -/
def execEncode (speed : Word16) (s : State) : Result := giveBack s (.frame (encodeSpeed speed))

end Sys2Proof.Machine
end

