-- ==== Sys2Proof/Machine/Observe.lean ====
section
/-!
DEFINITION. What can be read off the block: the frame the timeline holds for a lane (R49), the frame a burst of the trace carried on a
lane (R99), the symbols of a burst and their durations (R50, R51), and the level a pin shows (R12, R13).
-/

namespace Sys2Proof.Machine

/-- `stored_frame(b)`: bit `15 - i` is bit `b` of timeline entry `i` (R49). -/
def storedFrame {w : Nat} (timeline : Vector (BitVec w) 16) (b : Lane) : Word16 :=
  BitVec.ofFnBE (n := 16) fun i => timeline[i].getLsbD b

/-- The frame burst `n` of a trace carried on lane `b`: bit `15 - i` is bit `b` of the value of event `(n, i, M, v)` (R99). -/
def transmittedFrame {w : Nat} (trace : List (PortEvent w)) (n : Nat) (b : Lane) : Word16 :=
  BitVec.ofFnBE (n := 16) fun i =>
    match trace.find? (fun e => decide (e.burst = n ∧ e.slot = i ∧ e.phase = .m)) with
    | some e => e.value.getLsbD b
    | none => false

/-- The symbol that carries a bit (R50). -/
def symbolOf (bit : Bool) : Symbol := if bit then .sym1 else .sym0

/-- The sixteen symbols a burst shows on an active lane, slot 0 first (R51). -/
def laneSymbols {w : Nat} (timeline : Vector (BitVec w) 16) (b : Lane) : List Symbol :=
  (List.finRange 16).map fun i => symbolOf (timeline[i].getLsbD b)

/-- The bit a symbol carries, which is the lane's level after the M write (R50). -/
def Symbol.bit : Symbol → Bool
  | .sym0 => false
  | .sym1 => true

/-- The time a symbol is high (R50). -/
def Timing.high (t : Timing) : Symbol → Time
  | .sym0 => t.tShort
  | .sym1 => t.tShort + t.tMid

/-- The time a symbol is low: the rest of the bit period (R50). Where the premise R9 fails it may be negative. -/
def Timing.low (t : Timing) (y : Symbol) : Time := t.tBit - t.high y

/-- The level the pin on lane `b` shows, where the lane is an output (R12, R13); nothing is said of a lane that is not. -/
def Block.pinLevel {w : Nat} (k : Block w) (b : Lane) : Option Bool := if k.dir.getLsbD b then some (k.port.getLsbD b) else none

end Sys2Proof.Machine
end

