-- ==== Sys2Proof/Machine/Formats.lean ====
section
/-!
DEFINITION. The data formats of the table (30_encoding.md rules R46 to R51) as evaluations: each gives back the value the format has and
changes no state of the block. The spec lists them as formats, not operations; that a model can evaluate one is assumption 8.
-/

namespace Sys2Proof.Machine

/-- F-PAYLOAD (R46): the 12-bit payload with fields S and T, as the encoder holds it in 16 bits. -/
def execFPayload (f : BitVec 11) (t : BitVec 1) (s : State) : Result :=
  giveBack s (.payload ((f ++ t).setWidth 16))

/-- F-FRAME (R47): the frame with fields S, T and C, and whether its checksum is right (R57). -/
def execFFrame (f : BitVec 11) (t : BitVec 1) (c : BitVec 4) (s : State) : Result :=
  giveBack s (.frameValue (f ++ t ++ c) (frameOk (f ++ t ++ c)))

/-- F-TIMELINE (R49): the frame the timeline holds for a lane. -/
def execFTimeline (lane : Lane) (s : State) : Result :=
  giveBack s (.laneFrame lane (storedFrame s.block.timeline lane))

/-- A symbol's levels after the three writes of its slot, and its times (R50). -/
def pulseOf {w : Nat} (t : Timing) (y : Symbol) : Answer w := .pulse y true y.bit false (t.high y) (t.low y)

/-- SYM0 (R50). -/
def execSym0 (s : State) : Result := giveBack s (pulseOf s.platform.timing .sym0)

/-- SYM1 (R50). -/
def execSym1 (s : State) : Result := giveBack s (pulseOf s.platform.timing .sym1)

/-- F-BURST (R51): the sixteen symbols a burst shows on an active lane; a burst shows none on another lane (R103). -/
def execFBurst (lane : Lane) (s : State) : Result :=
  giveBack s (.laneBurst lane (if s.block.activeMask.getLsbD lane then laneSymbols s.block.timeline lane else []))

end Sys2Proof.Machine
end

