-- ==== Sys2Proof/Machine/Dispatch.lean ====
section
/-! DEFINITION. The dispatch: one arm per constructor of Instr, each one direct call of its meaning. -/

namespace Sys2Proof.Machine

def exec (i : Instr) (s : State) : Host.Outcome State Fault Refusal :=
  match i with
  -- requests of the host
  | .nop => Sys2Proof.Machine.execNop s
  | .attach pin => Sys2Proof.Machine.execAttach pin s
  | .setThrottle binding speed => Sys2Proof.Machine.execSetThrottle binding speed s
  | .reqReserved => Sys2Proof.Machine.execReqReserved s
  -- the encoder
  | .encode speed => Sys2Proof.Machine.execEncode speed s
  -- micro-steps of ATTACH and SET_THROTTLE
  | .dirset pin => Sys2Proof.Machine.execDirset pin s
  | .tmrcfg => Sys2Proof.Machine.execTmrcfg s
  | .tlc k => Sys2Proof.Machine.execTlc k s
  | .amclr => Sys2Proof.Machine.execAmclr s
  | .amor => Sys2Proof.Machine.execAmor s
  | .latch binding speed => Sys2Proof.Machine.execLatch binding speed s
  | .tlw k => Sys2Proof.Machine.execTlw k s
  -- the timer and the burst transmitter
  | .timerFire => Sys2Proof.Machine.execTimerFire s
  | .burstEnter => Sys2Proof.Machine.execBurstEnter s
  | .emitH => Sys2Proof.Machine.execEmitH s
  | .emitM => Sys2Proof.Machine.execEmitM s
  | .emitL => Sys2Proof.Machine.execEmitL s
  | .burstExit => Sys2Proof.Machine.execBurstExit s
  | .fire => Sys2Proof.Machine.execFire s
  -- data formats
  | .fPayload f t => Sys2Proof.Machine.execFPayload f t s
  | .fFrame f t c => Sys2Proof.Machine.execFFrame f t c s
  | .fTimeline lane => Sys2Proof.Machine.execFTimeline lane s
  | .sym0 => Sys2Proof.Machine.execSym0 s
  | .sym1 => Sys2Proof.Machine.execSym1 s
  | .fBurst lane => Sys2Proof.Machine.execFBurst lane s

end Sys2Proof.Machine
end

