-- ==== Sys2Proof/Machine/Schedule.lean ====
section
/-!
DEFINITION. Who moves next, and when. The host, the timer and the transmitter never run at the same instant (42_burst_transmitter.md rule
R85); the schedule of R20 stands in `inputs`, and everything the schedule does not say is fixed by the spec: a burst runs to its end with
the host suspended (R38 (c)), an acceptable interrupt goes before the host and before any time passes (R87, R109), the steps of a burst
come at their times (R87), and an operation in progress goes on with its next micro-step (R70).
-/

namespace Sys2Proof.Machine

/-- The micro-steps and steps a composite operation expands to (R59); every other operation is its own expansion. -/
def expansion : Instr → List Instr
  | .attach pin => [.dirset pin, .tmrcfg] ++ (List.finRange 16).map .tlc ++ [.amclr, .amor]
  | .setThrottle m speed => .latch m speed :: (List.finRange 16).map .tlw
  | .fire => [.timerFire, .burstEnter] ++ (List.replicate 16 [.emitH, .emitM, .emitL]).flatten ++ [.burstExit]
  | i => [i]

/-- The first micro-step of a request that is carried out micro-step by micro-step (R59, R75, R79). -/
def firstMicroStep : Instr → Instr
  | .attach pin => .dirset pin
  | .setThrottle m speed => .latch m speed
  | i => i

/-- Operations one after the other, stopping at the first that does not answer a next state. -/
def runInstrs : List Instr → State → Result
  | [], s => .next s
  | i :: rest, s =>
    match exec i s with
    | .next t => runInstrs rest t
    | .fault e => .fault e
    | .refused e => .refused e

/-- The micro-step that is due in the operation in progress (R75, R79). -/
def Fg.nextMicroStep {w : Nat} (f : Fg w) : Option Instr :=
  match f.op with
  | .none => none
  | .attach =>
    if f.step = 1 then some .tmrcfg
    else if f.step = 2 then (if h : f.idx.val < 16 then some (.tlc ⟨f.idx.val, h⟩) else none)
    else if f.step = 3 then some .amclr
    else if f.step = 4 then some .amor
    else none
  | .setThrottle => if h : f.idx.val < 16 then some (.tlw ⟨f.idx.val, h⟩) else none

/-- The step that is due in the transmitter, once a burst is entered (R89). -/
def Tx.nextStep (t : Tx) : Option Instr :=
  match t.state with
  | .idle => none
  | .armed => some .emitH
  | .emit =>
    match t.phase with
    | .h => some .emitH
    | .m => some .emitM
    | .l => some .emitL
    | .x => some .burstExit

/-- The step of the agent whose turn it is: the transmitter during a burst, then the acceptance of a pending firing, then the operation in
progress (R85, R109). -/
def Block.nextMove {w : Nat} (b : Block w) : Option Instr :=
  if b.inBurst then b.tx.nextStep
  else if b.interruptAcceptable then some .burstEnter
  else b.fg.nextMicroStep

/-- The time of the step the sequencer stands at in a burst (R87). -/
def Block.stepTime {w : Nat} (b : Block w) (t : Timing) : Time :=
  b.burstStart +
    (match b.tx.state with
    | .emit => t.eventOffset b.tx.slot b.tx.phase
    | .armed => t.eventOffset 0 .h
    | .idle => 0)

/-- How long it is until the next step of a burst; no time if it is late (R87). -/
def Block.untilStep {w : Nat} (b : Block w) (t : Timing) : Time := max (b.stepTime t - b.now) 0

/-- A time `n` passes in a burst, or outside one with no firing before its end (R87). -/
def State.passTime (s : State) (n : Time) : State := { s with block := s.block.passTime s.platform.timing.tFrame n }

/-- In a burst, the time until its next step passes (R87). -/
def Block.awaitStep {w : Nat} (b : Block w) (t : Timing) : Block w := if b.inBurst then b.passTime t.tFrame (b.untilStep t) else b

/-- The same on the machine's block. -/
def State.awaitStep (s : State) : State := { s with block := s.block.awaitStep s.platform.timing }

/-- One step of the agent whose turn it is, a burst's at its time; with nothing to do the block stands still (R120: there is no halt). -/
def advance (s : State) : Result :=
  match s.block.nextMove with
  | some i => exec i s.awaitStep
  | none => .next s

/-- The host takes no step now: a burst is in progress, or one is about to be entered (R85, R109). -/
def Block.hostSuspended {w : Nat} (b : Block w) : Bool := b.inBurst || b.interruptAcceptable

/-- Operations that the foreground asks for, and FIRE, which is enabled only outside a burst (R88); the steps of the timer and the
transmitter are not. -/
def isHostMove : Instr → Bool
  | .timerFire | .burstEnter | .emitH | .emitM | .emitL | .burstExit => false
  | .nop | .attach _ | .setThrottle _ _ | .reqReserved | .encode _ => true
  | .dirset _ | .tmrcfg | .tlc _ | .amclr | .amor | .latch _ _ | .tlw _ | .fire => true
  | .fPayload _ _ | .fFrame _ _ _ | .fTimeline _ | .sym0 | .sym1 | .fBurst _ => true

/-- How long it is until a running timer fires: until its phase reaches T_FRAME (R19, R86). -/
def Block.untilFiring {w : Nat} (b : Block w) (tFrame : Time) : Option Time :=
  if b.timerConfigured then some (max (tFrame - b.tmrCount) 0) else none

/-- A time `n`, not negative, is to pass, and then the rest of the schedule. A firing that can be accepted is accepted before any of it, so none is
lost outside a burst (R87, R108). In a burst the time runs up to the next step, which then is taken (R87). Otherwise it runs up to the
timer's next firing (R86). What is left of it stays on the schedule. -/
def elapseTime (n : Time) (rest : List Input) (s : State) : Result :=
  if s.block.interruptAcceptable then advance s
  else if s.block.inBurst then
    let wait := s.block.untilStep s.platform.timing
    if n < wait then .next ((s.passTime n).setInputs rest) else advance (s.setInputs (.elapse (n - wait) :: rest))
  else
    match s.block.untilFiring s.platform.timing.tFrame with
    | none => .next ((s.passTime n).setInputs rest)
    | some wait =>
      if n < wait then .next ((s.passTime n).setInputs rest)
      else .next ((s.passTime wait).setInputs (.elapse (n - wait) :: rest))

/-- The next step of the machine: the next item of the schedule if it can be taken now, else a step of the agent whose turn it is. -/
def runInput (s : State) : Result :=
  match s.inputs with
  | [] => advance s
  | .elapse n :: rest => elapseTime (max n 0) rest s
  | .advance :: rest => advance (s.setInputs rest)
  | .line i :: rest => if isHostMove i && s.block.hostSuspended then advance s else exec i (s.setInputs rest)
  | .request r :: rest =>
    if s.block.hostSuspended || s.block.operationInProgress then advance s
    else exec (s.platform.requested r) (s.setInputs rest)
  | .requestStepwise r :: rest =>
    if s.block.hostSuspended || s.block.operationInProgress then advance s
    else exec (firstMicroStep (s.platform.requested r)) (s.setInputs rest)

/-- The item that stands for a table row's word on a platform: a request word on the request channel where the platform's words have the
table's width, and else the operation as a program line (assumption 6). -/
def inputOfWord (p : Platform) (nbits w : Nat) : Option Input :=
  match codeWordOf nbits w with
  | .ok (.request aw r) => some (if p.aW = aw then .request r.toNat else .line (decode (.request aw r)))
  | .ok c => some (.line (decode c))
  | .error _ => none

end Sys2Proof.Machine
end

