-- ==== Sys2Proof/Machine/Step.lean ====
section
/-! DEFINITION. One step of the machine, and how a table row's word is placed as the next item the step takes. -/

namespace Sys2Proof.Machine

/-- One step: the next item of the schedule, or the agent whose turn it is (Machine/Schedule.lean). -/
def step (s : State) : Host.Outcome State Fault Refusal := runInput s

/-- The state with a table row's word as the next item of its schedule. Programs are not loaded: they are what the host asks for, item by
item (assumption 6). -/
def State.withFetchWord (s : State) (nbits w : Nat) : State :=
  match inputOfWord s.platform nbits w with
  | some x => s.setInputs (x :: s.inputs)
  | none => s

end Sys2Proof.Machine
end

