-- ==== Sys2Proof/Safety.lean ====
section
/-!
DEFINITION. The terms claims are stated in: when the host may start an operation, the invariant of the machine, the events of one burst,
and the schedules that use only the block's own interface.
-/

namespace Sys2Proof.Machine

/-- The host may start an operation: no burst and no other operation is in progress (R70, R85). -/
def Block.HostReady {w : Nat} (b : Block w) : Prop := b.tx.state = .idle ∧ b.fg.op = .none

/-- How many port writes of the present burst are done; between bursts all 48 of the latest (R94). -/
def Tx.writesDone (t : Tx) : Nat :=
  match t.state with
  | .idle => 48
  | .armed => 0
  | .emit =>
    match t.phase with
    | .h => 3 * t.slot.val
    | .m => 3 * t.slot.val + 1
    | .l => 3 * t.slot.val + 2
    | .x => 48

/-- What holds of the block in every state it can be in, on a given platform (10_state.md rule R22 and what the order of the micro-steps and
port writes gives). -/
structure Block.Inv (p : Platform) (k : Block p.portW) : Prop where
  /-- R22 (b): interrupts are masked exactly during a burst. -/
  masked_in_burst : k.ie = false ↔ k.tx.state ≠ .idle
  /-- R89: phase X is reached in slot 15 only. -/
  exit_after_last_slot : k.tx.state = .emit → k.tx.phase = .x → k.tx.slot = 15
  /-- R86, R14: only a configured timer fires, so a pending firing or a burst needs one. -/
  firing_needs_timer : k.tmrPending = true ∨ k.tx.state ≠ .idle → k.timerConfigured = true
  /-- R75: how far an ATTACH in progress is. -/
  attach_progress : k.fg.op = .attach →
    (k.fg.step = 1 ∧ k.fg.idx = 0) ∨ (k.fg.step = 2 ∧ k.fg.idx.val < 16) ∨
      ((k.fg.step = 3 ∨ k.fg.step = 4) ∧ k.fg.idx = 16)
  /-- R75: an ATTACH past TMRCFG has configured the timer. -/
  attach_timer : k.fg.op = .attach → k.fg.step ≠ 1 → k.timerConfigured = true
  /-- R75: the mask of an ATTACH is some pin's, and its lanes are outputs. -/
  attach_mask : k.fg.op = .attach → (∃ a : Operand, k.fg.mask = p.maskOf a) ∧ k.fg.mask &&& ~~~k.dir = 0
  /-- R75: the entries an ATTACH has passed are zero. -/
  attach_cleared : k.fg.op = .attach → ∀ i : Slot, i.val < k.fg.idx.val → k.timeline[i] = 0
  /-- R75, R72: between AMCLR and AMOR nothing is active. -/
  attach_inactive : p.attachClearsActive = true → k.fg.op = .attach → k.fg.step = 4 → k.activeMask = 0
  /-- R79: how far a SET_THROTTLE in progress is. -/
  throttle_progress : k.fg.op = .setThrottle → k.fg.idx.val < 16
  /-- R79: the entries a SET_THROTTLE has passed carry its frame on the lanes of its mask. -/
  throttle_written : k.fg.op = .setThrottle → ∀ i : Slot, i.val < k.fg.idx.val → ∀ b : Lane,
    k.fg.mask.getLsbD b = true → k.timeline[i].getLsbD b = k.fg.frame.getLsbD (15 - i.val)
  /-- R22 (a): under ATTACH_CLEARS_ACTIVE at most one pin's mask is active. -/
  one_active : p.attachClearsActive = true → k.activeMask = 0 ∨ ∃ a : Operand, k.activeMask = p.maskOf a
  /-- R71: an active lane is an output, and something is active only once the timer is configured. -/
  active_output : k.activeMask &&& ~~~k.dir = 0 ∧ (k.activeMask ≠ 0 → k.timerConfigured = true)
  /-- R94: the trace holds 48 events for each burst that is over, and those done of the present one. -/
  trace_count : k.trace.length + 48 = 48 * k.burstCount + k.tx.writesDone
  /-- R99: bursts are numbered from 1, and an event's phase names a port write. -/
  trace_numbers : ∀ e ∈ k.trace, 1 ≤ e.burst ∧ e.burst ≤ k.burstCount ∧ e.phase ≠ .x
  /-- R19: the timer's phase is not negative and below its period. -/
  phase_bound : 0 < p.timing.tFrame → 0 ≤ k.tmrCount ∧ k.tmrCount < p.timing.tFrame
  /-- R87: a burst has started, and the time of its next step is not over. -/
  burst_clock : k.tx.state ≠ .idle → k.burstStart ≤ k.now ∧ (p.timing.ok = true → k.now ≤ k.stepTime p.timing)

/-- The invariant of the machine is that of its block on its platform. -/
def State.Inv (s : State) : Prop := Block.Inv s.platform s.block

/-- The 48 events of burst `n`, entered at time `start`, given what stands at its start: H, M, L of slot 0, then of slot 1, to slot 15, each
at its time (R94, R91 to R93, R87). -/
def burstTrace {w : Nat} (t : Timing) (start : Time) (n : Nat) (port active : BitVec w) (timeline : Vector (BitVec w) 16) :
    List (PortEvent w) :=
  (List.finRange 16).flatMap fun i : Slot =>
    [{ burst := n, slot := i, phase := .h, value := port ||| active, time := start + t.tEntry + i.val * t.tBit },
     { burst := n, slot := i, phase := .m, value := (port ||| active) &&& (timeline[i] ||| ~~~active),
       time := start + t.tEntry + i.val * t.tBit + t.tShort },
     { burst := n, slot := i, phase := .l, value := port &&& ~~~active,
       time := start + t.tEntry + i.val * t.tBit + t.tShort + t.tMid }]

/-- A schedule that uses only the block's interface: time and request words, no program lines (R23, R55). -/
def Input.isInterface : Input → Bool
  | .elapse _ | .advance | .request _ | .requestStepwise _ => true
  | .line _ => false

/-- The item waits for the host: a request, or a program line of the foreground (R85). -/
def Input.waitsForHost : Input → Bool
  | .line i => isHostMove i
  | .request _ | .requestStepwise _ => true
  | .elapse _ | .advance => false

end Sys2Proof.Machine
end

