-- ==== Sys2Proof/Certificates/Slice0/Obligations.lean ====
section
/-!
DEFINITION. The statements for the provers. Each docstring names the rules of spec/ it formalises; where a rule carries the spec's own
decision (D<n>) or derivation, or where the model chose, it says so. A state is written `⟨p, k, l⟩`: the parameters of the run, its block
and its schedule; quantified over `p`, a statement speaks of every PORT_W, PIN_ID_W, pin table, value of ATTACH_CLEARS_ACTIVE and timing.
A next state is written as the one it starts from with the fields that change, so every field that is not named is unchanged.
-/

open Sys2Proof Sys2Proof.Machine

/-! ### Requests, the encoder and the formats: what each does, and that it completes -/

/-- R52 (decision D15): NOP is no request; it completes in every state and changes nothing. -/
def Obligations.NopChangesNothing : Prop := ∀ s : State, exec .nop s = .next s

/-- R52, U9 (decision D15): for every width of the field `a`, every word with `op` = 11 decodes to the reserved code, which is refused in
every state. -/
def Obligations.ReservedRequestIsRefused : Prop :=
  ∀ (s : State) (aw : Nat) (w : BitVec (aw + 18)), w.extractLsb' (aw + 16) 2 = 3#2 →
    decode (.request aw w) = .reqReserved ∧ exec (decode (.request aw w)) s = .refused .reservedRequest

/-- R60, R67 (a): ENCODE completes in every state, gives the frame back and changes no state of the block. That the frame is recorded on
`answers` is the model's choice (assumption 8); the 16-bit intermediate is the spec's decision D1. -/
def Obligations.EncodeAnswersTheFrame : Prop :=
  ∀ (p : Platform) (k : Block p.portW) (l : List Input) (speed : Word16),
    exec (.encode speed) ⟨p, k, l⟩ = .next ⟨p, { k with answers := k.answers ++ [.frame (encodeSpeed speed)] }, l⟩

/-- R71 to R74 (decisions D3, D6, D7): ATTACH from a ready host: the lanes of the mask of the pin in the low PIN_ID_W bits of the operand become
outputs, the timer is configured, every entry is zero, `activeMask` is the old one or zero with the mask merged, and the mask is given back;
nothing else changes but `fg`, which is don't-care once its `op` is None (R18). That the first configuration leaves the timer's phase where
it is, is the model's choice (assumption 3), and so is the record on `answers` (assumption 8). -/
def Obligations.AttachSetsTheBank : Prop :=
  ∀ (p : Platform) (k : Block p.portW) (l : List Input) (pin : Operand), k.HostReady →
    ∃ g : Fg p.portW, g.op = .none ∧
      exec (.attach pin) ⟨p, k, l⟩ = .next
        ⟨p,
          { k with
            dir := k.dir ||| p.pinMask.getD (pin % 2 ^ p.pinIdW) 0
            timerConfigured := true
            timeline := Vector.replicate 16 0
            activeMask := (if p.attachClearsActive = true then 0 else k.activeMask) ||| p.pinMask.getD (pin % 2 ^ p.pinIdW) 0
            fg := g
            answers := k.answers ++ [.binding (p.pinMask.getD (pin % 2 ^ p.pinIdW) 0)] },
          l⟩

/-- R77: SET_THROTTLE from a ready host, with the mask `m` in the low PORT_W bits of its operand (R52): entry `i` gets the mask ORed in where
bit `15 - i` of the encoded frame (R60) is 1 and ANDed out where it is 0; nothing else changes but `fg`, which is don't-care once its `op`
is None (R18). -/
def Obligations.SetThrottleWritesTheFrame : Prop :=
  ∀ (p : Platform) (k : Block p.portW) (l : List Input) (a : Operand) (m : BitVec p.portW) (speed : Word16),
    k.HostReady → m = BitVec.ofNat p.portW a →
    ∃ g : Fg p.portW, g.op = .none ∧
      exec (.setThrottle a speed) ⟨p, k, l⟩ = .next
        ⟨p,
          { k with
            timeline := Vector.ofFn fun i : Slot =>
              if (encodeSpeed speed).getLsbD (15 - i.val) then k.timeline[i] ||| m else k.timeline[i] &&& ~~~m
            fg := g },
          l⟩

/-- R46, R47, R57: the payload and frame formats complete in every state and give back the word with their fields in their places, a frame
with its check. That a format can be evaluated is the model's choice (assumption 8). -/
def Obligations.PayloadAndFrameFormatsAnswer : Prop :=
  ∀ (p : Platform) (k : Block p.portW) (l : List Input) (f : BitVec 11) (t : BitVec 1) (c : BitVec 4),
    (∃ v : Word16, exec (.fPayload f t) ⟨p, k, l⟩ = .next ⟨p, { k with answers := k.answers ++ [.payload v] }, l⟩ ∧
      v.extractLsb' 1 11 = f ∧ v.extractLsb' 0 1 = t ∧ v.extractLsb' 12 4 = 0) ∧
    (∃ v : Word16, ∃ ok : Bool,
      exec (.fFrame f t c) ⟨p, k, l⟩ = .next ⟨p, { k with answers := k.answers ++ [.frameValue v ok] }, l⟩ ∧
      v.extractLsb' 5 11 = f ∧ v.extractLsb' 4 1 = t ∧ v.extractLsb' 0 4 = c ∧
      (ok = true ↔ v.extractLsb' 12 4 ^^^ v.extractLsb' 8 4 ^^^ v.extractLsb' 4 4 ^^^ v.extractLsb' 0 4 = 0))

/-- R49, R51, R103: the timeline and burst formats of a lane complete in every state; bit `15 - i` of the stored frame is the lane's bit of
entry `i`, and a burst shows SYM1 or SYM0 by that bit on an active lane and nothing on another (assumption 8). -/
def Obligations.TimelineAndBurstFormatsAnswer : Prop :=
  ∀ (p : Platform) (k : Block p.portW) (l : List Input) (b : Lane),
    (∃ f : Word16, exec (.fTimeline b) ⟨p, k, l⟩ = .next ⟨p, { k with answers := k.answers ++ [.laneFrame b f] }, l⟩ ∧
      ∀ i : Slot, f.getLsbD (15 - i.val) = k.timeline[i].getLsbD b) ∧
    (∃ y : List Symbol, exec (.fBurst b) ⟨p, k, l⟩ = .next ⟨p, { k with answers := k.answers ++ [.laneBurst b y] }, l⟩ ∧
      (k.activeMask.getLsbD b = false → y = []) ∧
      (k.activeMask.getLsbD b = true → y.length = 16 ∧
        ∀ i : Slot, y[i.val]? = some (if k.timeline[i].getLsbD b then .sym1 else .sym0)))

/-- R50: the symbols complete in every state: SYM0 is high, low, low after the three writes and high for T_SHORT; SYM1 is high, high, low
and high for T_SHORT + T_MID; each is low for the rest of T_BIT (assumption 8). -/
def Obligations.SymbolFormatsAnswer : Prop :=
  ∀ (p : Platform) (k : Block p.portW) (l : List Input),
    exec .sym0 ⟨p, k, l⟩ = .next
      ⟨p,
        { k with answers := k.answers ++
            [.pulse .sym0 true false false p.timing.tShort (p.timing.tBit - p.timing.tShort)] },
        l⟩ ∧
    exec .sym1 ⟨p, k, l⟩ = .next
      ⟨p,
        { k with answers := k.answers ++
            [.pulse .sym1 true true false (p.timing.tShort + p.timing.tMid)
              (p.timing.tBit - p.timing.tShort - p.timing.tMid)] },
        l⟩

/-! ### The micro-steps of ATTACH and SET_THROTTLE -/

/-- R75 (decision D8): DIRSET from a ready host. That it sets `fg.op` and zeroes `fg.idx` is deduced from R18 (assumption 10). -/
def Obligations.DirsetMakesThePinAnOutput : Prop :=
  ∀ (p : Platform) (k : Block p.portW) (l : List Input) (pin : Operand), k.HostReady →
    exec (.dirset pin) ⟨p, k, l⟩ = .next
      ⟨p,
        { k with
          dir := k.dir ||| p.pinMask.getD (pin % 2 ^ p.pinIdW) 0
          fg := { k.fg with op := .attach, mask := p.pinMask.getD (pin % 2 ^ p.pinIdW) 0, idx := 0, step := 1 } },
        l⟩

/-- R75, R73 (decision D8): TMRCFG, due after DIRSET, configures the timer the first time and leaves a configured timer entirely alone. That
the first configuration too leaves the timer's phase where it is, is the model's choice (assumption 3): R19 and R87 leave it open. -/
def Obligations.TmrcfgConfiguresTheTimer : Prop :=
  ∀ (p : Platform) (k : Block p.portW) (l : List Input), k.tx.state = .idle → k.fg.op = .attach → k.fg.step = 1 →
    exec .tmrcfg ⟨p, k, l⟩ = .next ⟨p, { k with timerConfigured := true, fg := { k.fg with step := 2 } }, l⟩

/-- R75 (decision D8): TLC i, due when `i` entries are cleared, clears entry `i` and no other; after TLC 15 AMCLR is due. -/
def Obligations.TlcClearsOneEntry : Prop :=
  ∀ (p : Platform) (k : Block p.portW) (l : List Input) (i : Slot),
    k.tx.state = .idle → k.fg.op = .attach → k.fg.step = 2 → k.fg.idx.val = i.val →
    exec (.tlc i) ⟨p, k, l⟩ = .next
      ⟨p,
        { k with
          timeline := k.timeline.set i 0
          fg := { k.fg with idx := i.succ, step := if i.val = 15 then 3 else 2 } },
        l⟩

/-- R75, R72 (decisions D6, D8): AMCLR zeroes `activeMask` under ATTACH_CLEARS_ACTIVE and else leaves it. -/
def Obligations.AmclrClearsTheActiveMask : Prop :=
  ∀ (p : Platform) (k : Block p.portW) (l : List Input), k.tx.state = .idle → k.fg.op = .attach → k.fg.step = 3 →
    (p.attachClearsActive = true →
      exec .amclr ⟨p, k, l⟩ = .next ⟨p, { k with activeMask := 0, fg := { k.fg with step := 4 } }, l⟩) ∧
    (p.attachClearsActive = false → exec .amclr ⟨p, k, l⟩ = .next ⟨p, { k with fg := { k.fg with step := 4 } }, l⟩)

/-- R75, R74 (decision D8): AMOR merges the mask, returns it, and ends the operation. -/
def Obligations.AmorMergesAndReturnsTheBinding : Prop :=
  ∀ (p : Platform) (k : Block p.portW) (l : List Input), k.tx.state = .idle → k.fg.op = .attach → k.fg.step = 4 →
    exec .amor ⟨p, k, l⟩ = .next
      ⟨p,
        { k with
          activeMask := k.activeMask ||| k.fg.mask
          answers := k.answers ++ [.binding k.fg.mask]
          fg := { k.fg with op := .none, step := 0 } },
        l⟩

/-- R79 (decision D9): LATCH from a ready host computes the frame once and touches no shared state. -/
def Obligations.LatchTouchesNoSharedState : Prop :=
  ∀ (p : Platform) (k : Block p.portW) (l : List Input) (a : Operand) (speed : Word16), k.HostReady →
    exec (.latch a speed) ⟨p, k, l⟩ = .next
      ⟨p,
        { k with
          fg := { k.fg with op := .setThrottle, mask := BitVec.ofNat p.portW a, frame := encodeSpeed speed, idx := 0 } },
        l⟩

/-- R79, R78 (decision D9): TLW i, due when `i` entries are written, updates entry `i` under the mask; TLW 15 ends the operation. -/
def Obligations.TlwUpdatesOneEntry : Prop :=
  ∀ (p : Platform) (k : Block p.portW) (l : List Input) (i : Slot),
    k.tx.state = .idle → k.fg.op = .setThrottle → k.fg.idx.val = i.val →
    exec (.tlw i) ⟨p, k, l⟩ = .next
      ⟨p,
        { k with
          timeline := k.timeline.set i
            ((k.timeline[i] &&& ~~~k.fg.mask) ||| (if k.fg.frame.getLsbD (15 - i.val) then k.fg.mask else 0))
          fg := { k.fg with idx := i.succ, op := if i.val = 15 then .none else .setThrottle } },
        l⟩

/-! ### The timer and the burst transmitter -/

/-- R86 (decision D10): TIMER_FIRE completes exactly when the timer is configured, at any point of a burst or of an operation, and a firing
while one is pending leaves no further trace. -/
def Obligations.TimerFireOnlySetsPending : Prop :=
  ∀ (p : Platform) (k : Block p.portW) (l : List Input),
    (k.timerConfigured = true → exec .timerFire ⟨p, k, l⟩ = .next ⟨p, { k with tmrPending := true }, l⟩) ∧
    (k.timerConfigured = true → k.tmrPending = true → exec .timerFire ⟨p, k, l⟩ = .next ⟨p, k, l⟩) ∧
    (k.timerConfigured = false → exec .timerFire ⟨p, k, l⟩ = .refused .timerNotConfigured)

/-- R90, R110, R111 (decision D13): BURST_ENTER masks interrupts, clears the pending flag, arms the sequencer, and saves nothing; the burst
gets the next number (R99) and the present time as its start (R87). -/
def Obligations.BurstEnterTakesTheInterrupt : Prop :=
  ∀ (p : Platform) (k : Block p.portW) (l : List Input), k.tx.state = .idle → k.ie = true → k.tmrPending = true →
    exec .burstEnter ⟨p, k, l⟩ = .next
      ⟨p,
        { k with
          ie := false
          tmrPending := false
          tx := { k.tx with state := .armed }
          burstStart := k.now
          burstCount := k.burstCount + 1 },
        l⟩

/-- R91 (decisions D4, D5): EMIT_H, from `Armed` in slot 0 or from phase H in the present slot, raises every active lane and no other, with one
write of the whole port, whose event carries the time of R87. -/
def Obligations.EmitHRaisesEveryActiveLane : Prop :=
  ∀ (p : Platform) (k : Block p.portW) (l : List Input),
    (k.tx.state = .armed →
      exec .emitH ⟨p, k, l⟩ = .next
        ⟨p,
          { k with
            port := k.port ||| k.activeMask
            trace := k.trace ++
              [{ burst := k.burstCount, slot := 0, phase := .h, value := k.port ||| k.activeMask,
                 time := k.burstStart + p.timing.tEntry }]
            tx := { state := .emit, slot := 0, phase := .m } },
          l⟩) ∧
    (k.tx.state = .emit → k.tx.phase = .h →
      exec .emitH ⟨p, k, l⟩ = .next
        ⟨p,
          { k with
            port := k.port ||| k.activeMask
            trace := k.trace ++
              [{ burst := k.burstCount, slot := k.tx.slot, phase := .h, value := k.port ||| k.activeMask,
                 time := k.burstStart + (p.timing.tEntry + k.tx.slot.val * p.timing.tBit) }]
            tx := { k.tx with phase := .m } },
          l⟩)

/-- R92 (decision D4): EMIT_M drops the active lanes whose bit of the slot's entry is 0; its event comes T_SHORT after the slot's first
(R87). -/
def Obligations.EmitMDropsTheZeroLanes : Prop :=
  ∀ (p : Platform) (k : Block p.portW) (l : List Input), k.tx.state = .emit → k.tx.phase = .m →
    exec .emitM ⟨p, k, l⟩ = .next
      ⟨p,
        { k with
          port := k.port &&& (k.timeline[k.tx.slot] ||| ~~~k.activeMask)
          trace := k.trace ++
            [{ burst := k.burstCount, slot := k.tx.slot, phase := .m,
               value := k.port &&& (k.timeline[k.tx.slot] ||| ~~~k.activeMask),
               time := k.burstStart + (p.timing.tEntry + k.tx.slot.val * p.timing.tBit + p.timing.tShort) }]
          tx := { k.tx with phase := .l } },
        l⟩

/-- R93 (decision D4): EMIT_L drops every active lane, T_SHORT + T_MID after the slot's first write (R87); the slot advances below 15, and at
15 the phase becomes X. -/
def Obligations.EmitLDropsEveryActiveLane : Prop :=
  ∀ (p : Platform) (k : Block p.portW) (l : List Input), k.tx.state = .emit → k.tx.phase = .l →
    ∃ tx : Tx,
      exec .emitL ⟨p, k, l⟩ = .next
        ⟨p,
          { k with
            port := k.port &&& ~~~k.activeMask
            trace := k.trace ++
              [{ burst := k.burstCount, slot := k.tx.slot, phase := .l, value := k.port &&& ~~~k.activeMask,
                 time := k.burstStart +
                   (p.timing.tEntry + k.tx.slot.val * p.timing.tBit + p.timing.tShort + p.timing.tMid) }]
            tx := tx },
          l⟩ ∧
      tx.state = .emit ∧
      (k.tx.slot.val < 15 → tx.slot.val = k.tx.slot.val + 1 ∧ tx.phase = .h) ∧
      (k.tx.slot.val = 15 → tx.slot.val = 15 ∧ tx.phase = .x)

/-- R95, R112: BURST_EXIT unmasks interrupts and makes the sequencer idle, and restores nothing else. A firing that arrived during the burst
is accepted before a host step that waits and before any time passes (R95, R104); the schedule they wait on is the model's choice
(assumption 6). -/
def Obligations.BurstExitReturns : Prop :=
  ∀ (p : Platform) (k : Block p.portW) (l : List Input), k.tx.state = .emit → k.tx.slot = 15 → k.tx.phase = .x →
    exec .burstExit ⟨p, k, l⟩ = .next ⟨p, { k with ie := true, tx := { k.tx with state := .idle } }, l⟩ ∧
    (k.tmrPending = true → ∀ x rest, l = x :: rest → (x.waitsForHost = true ∨ ∃ n, x = .elapse n) →
      step ⟨p, { k with ie := true, tx := { k.tx with state := .idle } }, l⟩ =
        exec .burstEnter ⟨p, { k with ie := true, tx := { k.tx with state := .idle } }, l⟩)

/-- R88 (b), R94, R91 to R93, R87 (decisions D4, D5, D11): FIRE, enabled outside a burst once the timer is configured (BURST_ENTER in it needs
`IE` = 1, R90), makes exactly the 48 port writes of a burst in order, reading the bank as it stands, and changes nothing else but the
burst's number and start and the don't-care fields of the idle sequencer (assumption 7). -/
def Obligations.FireEmitsTheWholeBurst : Prop :=
  ∀ (p : Platform) (k : Block p.portW) (l : List Input), k.tx.state = .idle → k.ie = true → k.timerConfigured = true →
    exec .fire ⟨p, k, l⟩ = .next
      ⟨p,
        { k with
          tmrPending := false
          tx := { state := .idle, slot := 15, phase := .x }
          burstStart := k.now
          burstCount := k.burstCount + 1
          port := k.port &&& ~~~k.activeMask
          trace := k.trace ++ burstTrace p.timing k.now (k.burstCount + 1) k.port k.activeMask k.timeline },
        l⟩

/-! ### Where operations stop -/

/-- R85, R88, R70, R75, R79, R89, R90: the host takes no step during a burst and starts no operation while one is in progress; a micro-step that
is not the one due, a step of the transmitter outside the sequencer state it is defined in, an interrupt that cannot be accepted and a
firing of a timer that is not configured are refused. The names of the refusals are the model's (assumption 11). -/
def Obligations.StepsThatAreNotDueAreRefused : Prop :=
  ∀ (s : State) (a : Operand) (v : Word16) (i : Slot),
    (s.block.tx.state ≠ .idle →
      ∀ x ∈ [Instr.attach a, .setThrottle a v, .dirset a, .tmrcfg, .tlc i, .amclr, .amor, .latch a v, .tlw i, .fire],
        exec x s = .refused .burstInProgress) ∧
    (s.block.tx.state = .idle → s.block.fg.op ≠ .none →
      ∀ x ∈ [Instr.attach a, .setThrottle a v, .dirset a, .latch a v], exec x s = .refused .operationInProgress) ∧
    (s.block.tx.state = .idle →
      (s.block.fg.op ≠ .attach ∨ s.block.fg.step ≠ 1 → exec .tmrcfg s = .refused .microStepOutOfOrder) ∧
      (s.block.fg.op ≠ .attach ∨ s.block.fg.step ≠ 2 ∨ s.block.fg.idx.val ≠ i.val →
        exec (.tlc i) s = .refused .microStepOutOfOrder) ∧
      (s.block.fg.op ≠ .attach ∨ s.block.fg.step ≠ 3 → exec .amclr s = .refused .microStepOutOfOrder) ∧
      (s.block.fg.op ≠ .attach ∨ s.block.fg.step ≠ 4 → exec .amor s = .refused .microStepOutOfOrder) ∧
      (s.block.fg.op ≠ .setThrottle ∨ s.block.fg.idx.val ≠ i.val → exec (.tlw i) s = .refused .microStepOutOfOrder)) ∧
    (s.block.timerConfigured = false → s.block.tx.state = .idle → exec .fire s = .refused .timerNotConfigured) ∧
    (¬ (s.block.tx.state = .idle ∧ s.block.ie = true ∧ s.block.tmrPending = true) →
      exec .burstEnter s = .refused .interruptNotAcceptable) ∧
    (¬ (s.block.tx.state = .armed ∨ (s.block.tx.state = .emit ∧ s.block.tx.phase = .h)) →
      exec .emitH s = .refused .burstStepOutOfOrder) ∧
    (¬ (s.block.tx.state = .emit ∧ s.block.tx.phase = .m) → exec .emitM s = .refused .burstStepOutOfOrder) ∧
    (¬ (s.block.tx.state = .emit ∧ s.block.tx.phase = .l) → exec .emitL s = .refused .burstStepOutOfOrder) ∧
    (¬ (s.block.tx.state = .emit ∧ s.block.tx.phase = .x ∧ s.block.tx.slot = 15) →
      exec .burstExit s = .refused .burstStepOutOfOrder)

/-- R105, R55, R106: no operand is refused. From a ready host ATTACH, SET_THROTTLE, DIRSET and LATCH complete for every operand and every speed
(DIRSET and LATCH leaving an operation in progress, the whole operations none), and ENCODE for every speed in every state. (That nothing
faults is the type's: Fault has no constructor.) The clause on a host that is not ready rests on other rules: R85, R88 and decision D18 let it
take no step during a burst, and R70 lets it start no operation while one is in progress; that asking for one there is refused by name, in
place of having no transition, and by which of the two names, is the model's choice (assumption 11). -/
def Obligations.NoOperandIsRefused : Prop :=
  ∀ (s : State) (a : Operand) (v : Word16),
    (s.block.HostReady →
      (∀ x ∈ [Instr.attach a, .setThrottle a v], ∃ t : State, exec x s = .next t ∧ t.block.HostReady) ∧
      (∀ x ∈ [Instr.dirset a, .latch a v], ∃ t : State, exec x s = .next t ∧ t.block.fg.op ≠ .none)) ∧
    (¬ s.block.HostReady → ∃ e : Refusal,
      (e = .burstInProgress ∨ e = .operationInProgress) ∧
      ∀ (a' : Operand) (v' : Word16), ∀ x ∈ [Instr.attach a', .setThrottle a' v', .dirset a', .latch a' v'],
        exec x s = .refused e) ∧
    (∃ t : State, exec (.encode v) s = .next t)

/-! ### Steps -/

/-- R58, R52 (D15): a step whose schedule begins with a request word of the run's own width, or with a program line, runs exactly the operation
it stands for on the rest of the schedule, when the host may take a step; no time passes in it. What the schedule is made of is the model's
choice (assumption 6). -/
def Obligations.StepRunsTheDecodedRequest : Prop :=
  ∀ (p : Platform) (k : Block p.portW) (rest : List Input), k.hostSuspended = false →
    (∀ i : Instr, step ⟨p, k, .line i :: rest⟩ = exec i ⟨p, k, rest⟩) ∧
    (k.fg.op = .none → ∀ w : BitVec (max p.pinIdW p.portW + 18),
      step ⟨p, k, .request w.toNat :: rest⟩ = exec (decode (.request (max p.pinIdW p.portW) w)) ⟨p, k, rest⟩)

/-- R59, R70, R75, R79 (decisions D8, D9): a request carried out stepwise begins with its first micro-step, and an operation in progress goes on
with the micro-step that is due while a request waits, whole or stepwise, or nothing is on the schedule (assumption 6). -/
def Obligations.StepwiseRequestGoesMicroStepByMicroStep : Prop :=
  ∀ (p : Platform) (k : Block p.portW) (l rest : List Input), k.hostSuspended = false →
    (k.fg.op = .none → ∀ w : BitVec (max p.pinIdW p.portW + 18),
      step ⟨p, k, .requestStepwise w.toNat :: rest⟩ =
        (match decode (.request (max p.pinIdW p.portW) w) with
          | .attach pin => exec (.dirset pin) ⟨p, k, rest⟩
          | .setThrottle a v => exec (.latch a v) ⟨p, k, rest⟩
          | i => exec i ⟨p, k, rest⟩)) ∧
    (l = [] ∨ (∃ r, l = .request r :: rest) ∨ (∃ r, l = .requestStepwise r :: rest) →
      (k.fg.op = .attach →
        (k.fg.step = 1 → step ⟨p, k, l⟩ = exec .tmrcfg ⟨p, k, l⟩) ∧
        (k.fg.step = 2 → ∀ i : Slot, k.fg.idx.val = i.val → step ⟨p, k, l⟩ = exec (.tlc i) ⟨p, k, l⟩) ∧
        (k.fg.step = 3 → step ⟨p, k, l⟩ = exec .amclr ⟨p, k, l⟩) ∧
        (k.fg.step = 4 → step ⟨p, k, l⟩ = exec .amor ⟨p, k, l⟩)) ∧
      (k.fg.op = .setThrottle → ∀ i : Slot, k.fg.idx.val = i.val → step ⟨p, k, l⟩ = exec (.tlw i) ⟨p, k, l⟩))

/-- R109, R87, R85, R38 (c): with a firing acceptable, a step of the host waits and no time passes: the step taken is BURST_ENTER. In a burst the
step taken while the host waits is the one the sequencer stands at, after the time up to it (`awaitStep`: the clock at the step's time of
R87, the timer running on). What the host waits on is the model's choice (assumption 6). -/
def Obligations.InterruptGoesBeforeTheHost : Prop :=
  ∀ (s : State) (x : Input) (rest : List Input), s.inputs = x :: rest →
    (s.block.tx.state = .idle → s.block.ie = true → s.block.tmrPending = true →
      x.waitsForHost = true ∨ (∃ n, x = .elapse n) → step s = exec .burstEnter s) ∧
    (x.waitsForHost = true →
      (s.block.tx.state = .armed → step s = exec .emitH s.awaitStep) ∧
      (s.block.tx.state = .emit → s.block.tx.phase = .h → step s = exec .emitH s.awaitStep) ∧
      (s.block.tx.state = .emit → s.block.tx.phase = .m → step s = exec .emitM s.awaitStep) ∧
      (s.block.tx.state = .emit → s.block.tx.phase = .l → step s = exec .emitL s.awaitStep) ∧
      (s.block.tx.state = .emit → s.block.tx.phase = .x → step s = exec .burstExit s.awaitStep)) ∧
    (s.block.tx.state ≠ .idle → s.block.now ≤ s.block.stepTime s.platform.timing →
      s.awaitStep.block.now = s.block.stepTime s.platform.timing)

/-- R86, R87, R73, R19, R138: outside a burst time passing below the period only moves the clock and the phase of a running timer, reaching the
period fires it and restarts the phase, what is left passes afterwards, a timer that is not configured stands still, and while a firing can
be accepted no time passes. In a burst time passes up to the next step, the timer running on, and not past it. That times are rational
numbers, of which a negative one lets no time pass, is the model's choice (assumption 4), and so is the schedule (assumption 6). -/
def Obligations.TimerFiresOncePerPeriod : Prop :=
  ∀ (p : Platform) (k : Block p.portW) (n : Time) (rest : List Input),
    (k.tx.state = .idle → k.ie = true → k.tmrPending = true →
      step ⟨p, k, .elapse n :: rest⟩ = exec .burstEnter ⟨p, k, .elapse n :: rest⟩) ∧
    (n < 0 → ¬ (k.tx.state = .idle ∧ k.ie = true ∧ k.tmrPending = true) →
      step ⟨p, k, .elapse n :: rest⟩ = step ⟨p, k, .elapse 0 :: rest⟩) ∧
    (0 ≤ n → k.tx.state = .idle → k.tmrPending = false →
      (k.timerConfigured = false → step ⟨p, k, .elapse n :: rest⟩ = .next ⟨p, { k with now := k.now + n }, rest⟩) ∧
      (k.timerConfigured = true → k.tmrCount + n < p.timing.tFrame →
        step ⟨p, k, .elapse n :: rest⟩ = .next ⟨p, { k with now := k.now + n, tmrCount := k.tmrCount + n }, rest⟩) ∧
      (k.timerConfigured = true → k.tmrCount < p.timing.tFrame → p.timing.tFrame ≤ k.tmrCount + n →
        step ⟨p, k, .elapse n :: rest⟩ = .next
          ⟨p,
            { k with
              now := k.now + (p.timing.tFrame - k.tmrCount)
              tmrCount := 0
              tmrPending := true },
            .elapse (k.tmrCount + n - p.timing.tFrame) :: rest⟩)) ∧
    (0 ≤ n → k.tx.state ≠ .idle →
      (k.now + n < k.stepTime p.timing → k.timerConfigured = true →
        step ⟨p, k, .elapse n :: rest⟩ = .next
          ⟨p,
            { k with
              now := k.now + n
              tmrCount :=
                if p.timing.tFrame ≤ k.tmrCount + n then Int.fract ((k.tmrCount + n) / p.timing.tFrame) * p.timing.tFrame
                else k.tmrCount + n
              tmrPending := k.tmrPending || decide (p.timing.tFrame ≤ k.tmrCount + n) },
            rest⟩) ∧
      (k.now ≤ k.stepTime p.timing → k.stepTime p.timing ≤ k.now + n →
        step ⟨p, k, .elapse n :: rest⟩ =
          step ⟨p, k, .advance :: .elapse (k.now + n - k.stepTime p.timing) :: rest⟩))

/-! ### Invariants and whole-machine rules -/

/-- R126 and the invariant: what reset leaves, and that it meets the invariant. The free values of `PORT` and `DIR` are not mentioned. -/
def Obligations.ResetLeavesNothingAttached : Prop :=
  State.reset.Inv ∧ State.reset.block.HostReady ∧
  (∀ i : Slot, State.reset.block.timeline[i] = 0) ∧ State.reset.block.activeMask = 0 ∧
  State.reset.block.timerConfigured = false ∧ State.reset.block.ie = true ∧ State.reset.block.tmrPending = false ∧
  State.reset.block.trace = [] ∧ State.reset.block.burstCount = 0 ∧
  (∀ b : Lane, storedFrame State.reset.block.timeline b = 0)

/-- R22 (derived there), R75, R79, R87, R89, R94: every step keeps the invariant, from every state that meets it, whatever the schedule. -/
def Obligations.EveryStepKeepsTheInvariant : Prop :=
  ∀ s t : State, s.Inv → step s = .next t → t.Inv

/-- R55, R105: from every state that meets the invariant, with a schedule of time and request words only, the one step that is not taken is
the reserved request. That requests wait on the schedule in place of being refused, and its items, are the model's choice (assumption 6). -/
def Obligations.OnlyTheReservedRequestIsRefused : Prop :=
  ∀ s : State, s.Inv → (∀ x ∈ s.inputs, x.isInterface = true) →
    (∃ t : State, step s = .next t) ∨
    (step s = .refused .reservedRequest ∧
      ∃ (r : Nat) (rest : List Input), s.platform.requested r = .reqReserved ∧
        (s.inputs = .request r :: rest ∨ s.inputs = .requestStepwise r :: rest))

/-- R103 (derived there; decision D4): no step changes a port bit whose lane is not active. -/
def Obligations.ForeignLanesKeepTheirLevel : Prop :=
  ∀ s t : State, step s = .next t →
    ∀ b : Lane, s.block.activeMask.getLsbD b = false → t.block.port.getLsbD b = s.block.port.getLsbD b

/-- R98, R111, R38 (c): a step taken during a burst changes neither the timeline nor `activeMask`, `DIR`, the timer's configuration or the
operation in progress, and gives nothing back, whatever the schedule. -/
def Obligations.BurstFreezesTheBank : Prop :=
  ∀ (p : Platform) (k : Block p.portW) (l : List Input) (t : State), k.tx.state ≠ .idle → step ⟨p, k, l⟩ = .next t →
    ∃ (k' : Block p.portW) (l' : List Input), t = ⟨p, k', l'⟩ ∧
      k'.timeline = k.timeline ∧ k'.activeMask = k.activeMask ∧ k'.dir = k.dir ∧ k'.timerConfigured = k.timerConfigured ∧
      k'.fg = k.fg ∧ k'.answers = k.answers

/-- R115, R37, R20: the foreground's operations and micro-steps write no state of the interrupt context, and the steps of the timer and the
transmitter write none of the foreground's; no operation writes the run's parameters or the schedule, and none moves the clock or the
timer's phase. That the phase stands still in a first TMRCFG or ATTACH too is the model's choice (assumption 3), and so are the schedule
and the clock (assumptions 4 and 6). -/
def Obligations.ContextsWriteTheirOwnState : Prop :=
  ∀ (i : Instr) (p : Platform) (k : Block p.portW) (l : List Input) (t : State), exec i ⟨p, k, l⟩ = .next t →
    ∃ k' : Block p.portW, t = ⟨p, k', l⟩ ∧ k'.tmrCount = k.tmrCount ∧ k'.now = k.now ∧
      (i ∉ [Instr.timerFire, .burstEnter, .emitH, .emitM, .emitL, .burstExit, .fire] →
        k'.port = k.port ∧ k'.ie = k.ie ∧ k'.tmrPending = k.tmrPending ∧ k'.tx = k.tx ∧ k'.trace = k.trace ∧
          k'.burstCount = k.burstCount ∧ k'.burstStart = k.burstStart) ∧
      (i ∈ [Instr.timerFire, .burstEnter, .emitH, .emitM, .emitL, .burstExit, .fire] →
        k'.timeline = k.timeline ∧ k'.activeMask = k.activeMask ∧ k'.dir = k.dir ∧
          k'.timerConfigured = k.timerConfigured ∧ k'.fg = k.fg ∧ k'.answers = k.answers)

/-- R13, R14, R20, R87, R99, R139: no step changes a parameter of the run, unconfigures the timer, makes an output an input again, takes back an
event of the trace or an answer, or turns the clock back. -/
def Obligations.StepsTakeNothingBack : Prop :=
  ∀ (p : Platform) (k : Block p.portW) (l : List Input) (t : State), step ⟨p, k, l⟩ = .next t →
    ∃ (k' : Block p.portW) (l' : List Input), t = ⟨p, k', l'⟩ ∧
      (k.timerConfigured = true → k'.timerConfigured = true) ∧
      (∀ b : Lane, k.dir.getLsbD b = true → k'.dir.getLsbD b = true) ∧
      (∃ es, k'.trace = k.trace ++ es) ∧ (∃ as, k'.answers = k.answers ++ as) ∧ k.now ≤ k'.now

/-- R22 (e), R78: a timeline bit turns from 0 to 1 only on a lane of the mask of the SET_THROTTLE that is carried out. -/
def Obligations.TimelineBitsRiseOnlyUnderTheMask : Prop :=
  ∀ (i : Instr) (s t : State) (n : Slot) (b : Lane), exec i s = .next t →
    s.block.timeline[n].getLsbD b = false → t.block.timeline[n].getLsbD b = true →
      (i = .tlw n ∧ s.block.fg.mask.getLsbD b = true) ∨
      (∃ (a : Operand) (v : Word16), i = .setThrottle a v ∧ b < s.platform.portW ∧ a.testBit b = true)

/-! ### Whole operations and their micro-steps -/

/-- R59, R71, R75: from a ready host, the twenty micro-steps of ATTACH in order do what the whole operation does (the don't-care fields of `fg`
included, assumption 7). -/
def Obligations.AttachEqualsItsMicroSteps : Prop :=
  ∀ (s : State) (pin : Operand), s.block.HostReady → runInstrs (expansion (.attach pin)) s = exec (.attach pin) s

/-- R59, R77, R79: from a ready host, LATCH and the sixteen TLW in order do what the whole SET_THROTTLE does (the don't-care fields of `fg`
included, assumption 7). -/
def Obligations.SetThrottleEqualsItsMicroSteps : Prop :=
  ∀ (s : State) (a : Operand) (v : Word16), s.block.HostReady →
    runInstrs (expansion (.setThrottle a v)) s = exec (.setThrottle a v) s

/-- R59, R70, R75, R79, R88: with no firing pending and nothing else on the schedule, the machine carries a stepwise request out to the state of
the whole operation, in twenty steps for ATTACH and seventeen for SET_THROTTLE. The item and its step counts are the model's choice
(assumption 6), and so is that the whole operation leaves in `fg` what its micro-steps leave (assumption 7). -/
def Obligations.StepwiseRequestReachesTheWholeOperation : Prop :=
  ∀ (p : Platform) (k : Block p.portW) (r : Nat), k.HostReady → k.tmrPending = false →
    (∀ pin : Operand, p.requested r = .attach pin →
      Host.Core.run Sys2Proof.core 20 (State.mk p k [.requestStepwise r]) = exec (.attach pin) ⟨p, k, []⟩) ∧
    (∀ (a : Operand) (v : Word16), p.requested r = .setThrottle a v →
      Host.Core.run Sys2Proof.core 17 (State.mk p k [.requestStepwise r]) = exec (.setThrottle a v) ⟨p, k, []⟩)

/-- R87, R88, R89, R94, R95, R138: under the premise on the timing (R9, with T_ENTRY and T_EXIT not negative, assumption 4), the fifty steps
of a burst (BURST_ENTER, 48 port writes, BURST_EXIT) reach the state FIRE reaches in one transition of the untimed model, T_BURST later:
with a firing pending and nothing on the schedule; and, with one step more, from an idle block whose schedule lets the timer reach its
period and then T_BURST pass. If T_BURST is below the period the next firing then is still to come. The schedule is the model's choice
(assumption 6); FIRE's expansion reaches FIRE's state too. -/
def Obligations.FiftyStepsMakeTheBurstOfFire : Prop :=
  ∀ (p : Platform) (k : Block p.portW), p.timing.ok = true → k.tx.state = .idle → k.ie = true → k.timerConfigured = true →
    k.tmrCount < p.timing.tFrame →
    runInstrs (expansion .fire) ⟨p, k, []⟩ = exec .fire ⟨p, k, []⟩ ∧
    (k.tmrPending = true → ∃ f : Block p.portW, exec .fire ⟨p, k, []⟩ = .next ⟨p, f, []⟩ ∧
      Host.Core.run Sys2Proof.core 50 (State.mk p k []) =
        .next (State.mk p (f.passTime p.timing.tFrame p.timing.burstDuration) [])) ∧
    (k.tmrPending = false → ∀ (n : Time) (rest : List Input),
      p.timing.tFrame + p.timing.burstDuration ≤ k.tmrCount + n →
      ∃ f : Block p.portW,
        exec .fire ⟨p, { k with now := k.now + (p.timing.tFrame - k.tmrCount), tmrCount := 0 }, rest⟩ = .next ⟨p, f, rest⟩ ∧
        Host.Core.run Sys2Proof.core 51 (State.mk p k (.elapse n :: rest)) =
          .next (State.mk p (f.passTime p.timing.tFrame p.timing.burstDuration)
            (.elapse (k.tmrCount + n - p.timing.tFrame - p.timing.burstDuration) :: rest)) ∧
        (p.timing.burstDuration < p.timing.tFrame →
          (f.passTime p.timing.tFrame p.timing.burstDuration).tmrPending = false ∧
          (f.passTime p.timing.tFrame p.timing.burstDuration).tmrCount = p.timing.burstDuration))

/-! ### What is transmitted -/

/-- R99, R51, R97: from every state that meets the invariant and may fire, the burst completes, and the frame it carries on every active lane
is the one the timeline holds for the lane. -/
def Obligations.FireTransmitsTheStoredFrame : Prop :=
  ∀ s : State, s.Inv → s.block.tx.state = .idle → s.block.timerConfigured = true →
    ∃ t : State, exec .fire s = .next t ∧
      ∀ b : Lane, s.block.activeMask.getLsbD b = true →
        transmittedFrame t.block.trace t.block.burstCount b = storedFrame s.block.timeline b

/-- R77, R127, R100: from every state that meets the invariant, a SET_THROTTLE followed by a firing transmits the frame of the speed on every
active lane of the mask, and a second firing transmits it again. -/
def Obligations.CommandedSpeedIsTransmitted : Prop :=
  ∀ (s : State) (a : Operand) (v : Word16), s.Inv → s.block.HostReady → s.block.timerConfigured = true →
    ∃ t u : State, runInstrs [.setThrottle a v, .fire] s = .next t ∧ exec .fire t = .next u ∧
      ∀ b : Lane, s.block.activeMask.getLsbD b = true → a.testBit b = true →
        transmittedFrame t.block.trace t.block.burstCount b = encodeSpeed v ∧
        transmittedFrame u.block.trace u.block.burstCount b = encodeSpeed v

/-- R39, R79, R132: after LATCH and the first `n` entry writes of a SET_THROTTLE, 0 to 16, a lane of the mask holds the new frame's bits 15 to
`16 - n` and the old frame's bits below, and every other lane holds its old frame. -/
def Obligations.TornFrameIsNewAboveOld : Prop :=
  ∀ (s : State) (a : Operand) (v : Word16) (n : Nat), s.block.HostReady → n ≤ 16 →
    ∃ t : State, runInstrs (.latch a v :: ((List.finRange 16).take n).map .tlw) s = .next t ∧
      (∀ b : Lane, b < s.platform.portW → a.testBit b = true → ∀ j : Nat, j < 16 →
        (storedFrame t.block.timeline b).getLsbD j =
          (if 16 - n ≤ j then (encodeSpeed v).getLsbD j else (storedFrame s.block.timeline b).getLsbD j)) ∧
      (∀ b : Lane, a.testBit b = false → storedFrame t.block.timeline b = storedFrame s.block.timeline b)

/-- R75, R22 (a): after the first `n` clears of an ATTACH, 0 to 16, entries 0 to `n - 1` are zero on every lane, the others as they were, and the
lanes active before are still active. -/
def Obligations.PartlyClearedTimelineDuringAttach : Prop :=
  ∀ (p : Platform) (k : Block p.portW) (l : List Input) (pin : Operand) (n : Nat), k.HostReady → n ≤ 16 →
    ∃ k' : Block p.portW,
      runInstrs (.dirset pin :: .tmrcfg :: ((List.finRange 16).take n).map .tlc) ⟨p, k, l⟩ = .next ⟨p, k', l⟩ ∧
      k'.activeMask = k.activeMask ∧
      ∀ i : Slot, (i.val < n → k'.timeline[i] = 0) ∧ (n ≤ i.val → k'.timeline[i] = k.timeline[i])

/-- R82: SET_THROTTLE leaves every timeline bit outside its mask, and ATTACH changes every lane: it leaves no bit set. -/
def Obligations.PinIsolation : Prop :=
  (∀ (p : Platform) (k : Block p.portW) (l : List Input) (a : Operand) (v : Word16) (t : State),
    exec (.setThrottle a v) ⟨p, k, l⟩ = .next t →
    ∃ k' : Block p.portW, t = ⟨p, k', l⟩ ∧
      ∀ i : Slot, k'.timeline[i] &&& ~~~BitVec.ofNat p.portW a = k.timeline[i] &&& ~~~BitVec.ofNat p.portW a) ∧
  (∀ (s t : State) (pin : Operand), exec (.attach pin) s = .next t → ∀ i : Slot, t.block.timeline[i] = 0)

/-- R81 (derived in part): the same SET_THROTTLE a second time leaves the timeline as the first left it, and so does each of its
micro-steps. -/
def Obligations.SetThrottleIsIdempotent : Prop :=
  ∀ (p : Platform) (k : Block p.portW) (l : List Input) (a : Operand) (v : Word16), k.HostReady →
    ∃ k' : Block p.portW, exec (.setThrottle a v) ⟨p, k, l⟩ = .next ⟨p, k', l⟩ ∧
      ∀ n : Nat, n ≤ 16 →
        ∃ k'' : Block p.portW,
          runInstrs (.latch a v :: ((List.finRange 16).take n).map .tlw) ⟨p, k', l⟩ = .next ⟨p, k'', l⟩ ∧
          k''.timeline = k'.timeline

/-- R83: after ATTACH A, SET a, s, ATTACH B every entry is zero on every lane. -/
def Obligations.ReattachmentWipesEveryLane : Prop :=
  ∀ (s : State) (a b : Operand) (v : Word16), s.block.HostReady →
    ∃ t : State, runInstrs [.attach a, .setThrottle (s.platform.maskOf a).toNat v, .attach b] s = .next t ∧
      ∀ i : Slot, t.block.timeline[i] = 0

/-- R72, R84 (a), R134 (90_conflicts.md C3, D6): under ATTACH_CLEARS_ACTIVE a second ATTACH leaves only its own mask active, and a SET_THROTTLE
with the earlier binding and a firing then leave every lane outside that mask where it was; without the switch both masks are active.
The earlier pin's lanes stay outputs. -/
def Obligations.EarlierPinFallsSilent : Prop :=
  ∀ (p : Platform) (k : Block p.portW) (l : List Input) (a b : Operand) (v : Word16), k.HostReady → k.ie = true →
    ∃ k₁ k₂ : Block p.portW, runInstrs [.attach a, .attach b] ⟨p, k, l⟩ = .next ⟨p, k₁, l⟩ ∧
      runInstrs [.setThrottle (p.maskOf a).toNat v, .fire] ⟨p, k₁, l⟩ = .next ⟨p, k₂, l⟩ ∧
      (p.attachClearsActive = true →
        k₁.activeMask = p.maskOf b ∧
        ∀ n : Lane, (p.maskOf b).getLsbD n = false → k₂.port.getLsbD n = k.port.getLsbD n) ∧
      (p.attachClearsActive = false → k₁.activeMask = k.activeMask ||| p.maskOf a ||| p.maskOf b) ∧
      k₁.dir = k.dir ||| p.maskOf a ||| p.maskOf b

/-- R101 (derived there; decision D20): a firing with nothing active makes 48 port writes, each of the value the port had. -/
def Obligations.EmptyBurstMovesNothing : Prop :=
  ∀ (p : Platform) (k : Block p.portW) (l : List Input),
    k.tx.state = .idle → k.ie = true → k.timerConfigured = true → k.activeMask = 0 →
    ∃ (k' : Block p.portW) (es : List (PortEvent p.portW)), exec .fire ⟨p, k, l⟩ = .next ⟨p, k', l⟩ ∧
      k'.port = k.port ∧ k'.trace = k.trace ++ es ∧ es.length = 48 ∧ ∀ e ∈ es, e.value = k.port

/-! ### Formulas -/

/-- R96: the three port writes lane by lane, for every port width. -/
def Obligations.LanesActIndependently : Prop :=
  ∀ (w : Nat) (port active entry : BitVec w) (b : Nat),
    (raiseLanes port active).getLsbD b = (port.getLsbD b || active.getLsbD b) ∧
    (b < w → (keepLanes port active entry).getLsbD b = (port.getLsbD b && (entry.getLsbD b || !active.getLsbD b))) ∧
    (b < w → (dropLanes port active).getLsbD b = (port.getLsbD b && !active.getLsbD b))

/-- R78: the entry update changes only the bits of the mask and makes all of them equal to the frame bit, for every port width. -/
def Obligations.EntryUpdateUnderTheMask : Prop :=
  ∀ (w : Nat) (entry mask : BitVec w) (bit : Bool) (b : Nat), b < w →
    (entryUpdate entry mask bit).getLsbD b = (if mask.getLsbD b then bit else entry.getLsbD b)

/-- R47: the fields of the frame of every speed: S is the speed's low eleven bits, T says that the payload before the flag is below 48, and C is
the XOR of the payload's three nibbles, so that the frame passes its check. -/
def Obligations.EncodedFrameFields : Prop :=
  ∀ v : Word16,
    (encodeSpeed v).extractLsb' 5 11 = v.extractLsb' 0 11 ∧
    (encodeSpeed v).extractLsb' 4 1 = BitVec.ofBool ((v <<< 1).ult 48#16) ∧
    (encodeSpeed v).extractLsb' 4 12 = (payloadOf v).extractLsb' 0 12 ∧
    (encodeSpeed v).extractLsb' 0 4 =
      (payloadOf v).extractLsb' 8 4 ^^^ (payloadOf v).extractLsb' 4 4 ^^^ (payloadOf v).extractLsb' 0 4 ∧
    frameOk (encodeSpeed v) = true

/-- R62: the flag is set exactly for the speeds below 24 among 0 to 2047, and (derived there under D1) exactly when the low fifteen bits are
below 24 among all. -/
def Obligations.TelemetryFlagBelowTwentyFour : Prop :=
  ∀ v : Word16,
    (v.toNat ≤ 2047 → (telemetryFlag (payloadBeforeFlag v) = true ↔ v.toNat < 24)) ∧
    (telemetryFlag (payloadBeforeFlag v) = true ↔ v.toNat % 32768 < 24) ∧
    payloadOf v = payloadBeforeFlag v ||| (if telemetryFlag (payloadBeforeFlag v) = true then 1 else 0)

/-- R64: frame assembly puts the payload's low twelve bits above the checksum. -/
def Obligations.FrameAssembly : Prop :=
  ∀ (p : Word16) (c : BitVec 4),
    (assembleFrame p c).extractLsb' 4 12 = p.extractLsb' 0 12 ∧ (assembleFrame p c).extractLsb' 0 4 = c

/-- R68 (derived there): the closed form for a speed in range, that the encoder is injective there, and that it never gives 0. -/
def Obligations.EncoderClosedForm : Prop :=
  (∀ v : Word16, v.toNat ≤ 2047 →
    (encodeSpeed v).toNat =
      32 * v.toNat + 16 * (if v.toNat < 24 then 1 else 0) + (checksumOf (payloadOf v)).toNat ∧
    (payloadOf v).toNat = 2 * v.toNat + (if v.toNat < 24 then 1 else 0) ∧
    17 ≤ (encodeSpeed v).toNat) ∧
  (∀ v v' : Word16, v.toNat ≤ 2047 → v'.toNat ≤ 2047 → encodeSpeed v = encodeSpeed v' → v = v')

/-- R66 (derived there; decision D1): a speed with `speed[14:11]` = 0 encodes like its low eleven bits; with `speed[14:11]` not 0 the flag is 0
and the frame is `{speed[10:0], 0, C}`; bit 15 never matters. -/
def Obligations.OutOfRangeSpeeds : Prop :=
  ∀ v : Word16,
    (v.extractLsb' 11 4 = 0 → encodeSpeed v = encodeSpeed ((v.extractLsb' 0 11).setWidth 16)) ∧
    (v.extractLsb' 11 4 ≠ 0 →
      encodeSpeed v = ((v.extractLsb' 0 11 ++ (0#1 : BitVec 1)) ++ checksumOf ((v.extractLsb' 0 11).setWidth 16 <<< 1))) ∧
    encodeSpeed (v ^^^ 0x8000#16) = encodeSpeed v

/-- R9, R50, R102: under the premise on the timing parameters (R9, with T_ENTRY and T_EXIT not negative, assumption 4), a bit 1 is high
strictly longer than a bit 0, each is low for a positive time, the three writes of a slot and the slots of a burst come in order, and a
burst fits in the period. -/
def Obligations.TimingOfSymbolsAndBurst : Prop :=
  ∀ t : Timing, t.ok = true →
    t.high .sym0 < t.high .sym1 ∧ 0 < t.high .sym0 ∧ 0 < t.low .sym0 ∧ 0 < t.low .sym1 ∧
    (∀ i : Slot, t.eventOffset i .h + t.tShort = t.eventOffset i .m ∧ t.eventOffset i .m + t.tMid = t.eventOffset i .l ∧
      t.eventOffset i .l < t.tEntry + (i.val + 1) * t.tBit) ∧
    (∀ i j : Slot, i.val + 1 = j.val → t.eventOffset i .h + t.tBit = t.eventOffset j .h) ∧
    t.eventOffset 15 .l < t.eventOffset 15 .x ∧ t.eventOffset 15 .x = t.burstDuration ∧ t.burstDuration ≤ t.tFrame

/-! ### Encodings -/

/-- R52, R46, R47: for every width of the field `a` of a request word, decoding the word of an operation whose operand fits in it gives the
operation back, with every operand at every value. -/
def Obligations.DecodeOfEncode : Prop :=
  ∀ (aw : Nat) (i : Instr) (c : CodeWord), i.fits aw = true → encode aw i = some c → decode c = i

/-- R52: what every request word of every width means by its three fields: `op` chooses the operation, ATTACH ignores the speed field, NOP and
the reserved code ignore both operands, and no bit of a mask, a pin or a speed is dropped. -/
def Obligations.RequestWordFields : Prop :=
  ∀ (aw : Nat) (w : BitVec (aw + 18)),
    decode (.request aw w) =
      (match (w.extractLsb' (aw + 16) 2).toNat with
        | 0 => .nop
        | 1 => .attach (w.extractLsb' 16 aw).toNat
        | 2 => .setThrottle (w.extractLsb' 16 aw).toNat (w.extractLsb' 0 16)
        | _ => .reqReserved)

/-- 95_test_vectors.md programs P1 to P4 (R52): request words written out there decode to the operations they stand for, and so do the words of
the other three forms written out from R46, R47 and R60, and a request word for a port of 16 lanes. -/
def Obligations.WrittenOutWordsDecode : Prop :=
  decode (.request 8 0b01_00000101_0000000000000000#26) = .attach 5 ∧
  decode (.request 8 0b10_00100000_0000000000110000#26) = .setThrottle 0x20 48 ∧
  decode (.request 8 0b10_00000100_0000011111111111#26) = .setThrottle 0x04 2047 ∧
  decode (.request 8 0b10_00000001_0000100000000000#26) = .setThrottle 0x01 2048 ∧
  decode (.request 8 0b00_11111111_1111111111111111#26) = .nop ∧
  decode (.request 8 0b11_00000000_0000000000000000#26) = .reqReserved ∧
  decode (.request 16 0b10_1000000000000001_0000000000110000#34) = .setThrottle 0x8001 48 ∧
  decode (.operand 0b0000000000110000#16) = .encode 48 ∧
  decode (.payload 0b00000110000_0#12) = .fPayload 48 0 ∧
  decode (.frame 0b00000110000_0_0110#16) = .fFrame 48 0 6
end

