-- ==== Sys2Proof/Laws/State.lean ====
section
/-!
SUPPORT. What each named update of the block does to each field (Machine/Ops.lean): one lemma per field per update.
-/

namespace Sys2Proof.Machine

variable {w : Nat} (k : Block w)

/-- The one-time start of the timer, without its case split. -/
theorem Block.startTimer_eq : k.startTimer = { k with timerConfigured := true } := by
  unfold Block.startTimer
  split
  · rename_i h
    cases k
    cases h
    rfl
  · rfl

/-- The passing of time, without its case splits: only the clock, the timer's phase and the pending flag. -/
theorem Block.passTime_eq (tFrame n : Time) : k.passTime tFrame n =
    { k with
      now := k.now + n
      tmrCount :=
        if k.timerConfigured = true then
          if tFrame ≤ k.tmrCount + n then phaseOf tFrame (k.tmrCount + n) else k.tmrCount + n
        else k.tmrCount
      tmrPending := k.tmrPending || (k.timerConfigured && decide (tFrame ≤ k.tmrCount + n)) } := by
  unfold Block.passTime
  by_cases h : k.timerConfigured = true
  · by_cases h' : tFrame ≤ k.tmrCount + n
    · simp [h, h', Block.setNow, Block.setTmrCount, Block.raiseTimer]
    · simp [h, h', Block.setNow, Block.setTmrCount]
  · simp [h, Block.setNow]


@[simp] theorem Block.tlWrite_timeline (i : Slot) (v : BitVec w) : (k.tlWrite i v).timeline = k.timeline.set i v := rfl
@[simp] theorem Block.tlWrite_activeMask (i : Slot) (v : BitVec w) : (k.tlWrite i v).activeMask = k.activeMask := rfl
@[simp] theorem Block.tlWrite_port (i : Slot) (v : BitVec w) : (k.tlWrite i v).port = k.port := rfl
@[simp] theorem Block.tlWrite_dir (i : Slot) (v : BitVec w) : (k.tlWrite i v).dir = k.dir := rfl
@[simp] theorem Block.tlWrite_timerConfigured (i : Slot) (v : BitVec w) : (k.tlWrite i v).timerConfigured = k.timerConfigured := rfl
@[simp] theorem Block.tlWrite_ie (i : Slot) (v : BitVec w) : (k.tlWrite i v).ie = k.ie := rfl
@[simp] theorem Block.tlWrite_tmrPending (i : Slot) (v : BitVec w) : (k.tlWrite i v).tmrPending = k.tmrPending := rfl
@[simp] theorem Block.tlWrite_tx (i : Slot) (v : BitVec w) : (k.tlWrite i v).tx = k.tx := rfl
@[simp] theorem Block.tlWrite_fg (i : Slot) (v : BitVec w) : (k.tlWrite i v).fg = k.fg := rfl
@[simp] theorem Block.tlWrite_tmrCount (i : Slot) (v : BitVec w) : (k.tlWrite i v).tmrCount = k.tmrCount := rfl
@[simp] theorem Block.tlWrite_now (i : Slot) (v : BitVec w) : (k.tlWrite i v).now = k.now := rfl
@[simp] theorem Block.tlWrite_burstStart (i : Slot) (v : BitVec w) : (k.tlWrite i v).burstStart = k.burstStart := rfl
@[simp] theorem Block.tlWrite_burstCount (i : Slot) (v : BitVec w) : (k.tlWrite i v).burstCount = k.burstCount := rfl
@[simp] theorem Block.tlWrite_trace (i : Slot) (v : BitVec w) : (k.tlWrite i v).trace = k.trace := rfl
@[simp] theorem Block.tlWrite_answers (i : Slot) (v : BitVec w) : (k.tlWrite i v).answers = k.answers := rfl

@[simp] theorem Block.setTimeline_timeline (t : Vector (BitVec w) 16) : (k.setTimeline t).timeline = t := rfl
@[simp] theorem Block.setTimeline_activeMask (t : Vector (BitVec w) 16) : (k.setTimeline t).activeMask = k.activeMask := rfl
@[simp] theorem Block.setTimeline_port (t : Vector (BitVec w) 16) : (k.setTimeline t).port = k.port := rfl
@[simp] theorem Block.setTimeline_dir (t : Vector (BitVec w) 16) : (k.setTimeline t).dir = k.dir := rfl
@[simp] theorem Block.setTimeline_timerConfigured (t : Vector (BitVec w) 16) : (k.setTimeline t).timerConfigured = k.timerConfigured := rfl
@[simp] theorem Block.setTimeline_ie (t : Vector (BitVec w) 16) : (k.setTimeline t).ie = k.ie := rfl
@[simp] theorem Block.setTimeline_tmrPending (t : Vector (BitVec w) 16) : (k.setTimeline t).tmrPending = k.tmrPending := rfl
@[simp] theorem Block.setTimeline_tx (t : Vector (BitVec w) 16) : (k.setTimeline t).tx = k.tx := rfl
@[simp] theorem Block.setTimeline_fg (t : Vector (BitVec w) 16) : (k.setTimeline t).fg = k.fg := rfl
@[simp] theorem Block.setTimeline_tmrCount (t : Vector (BitVec w) 16) : (k.setTimeline t).tmrCount = k.tmrCount := rfl
@[simp] theorem Block.setTimeline_now (t : Vector (BitVec w) 16) : (k.setTimeline t).now = k.now := rfl
@[simp] theorem Block.setTimeline_burstStart (t : Vector (BitVec w) 16) : (k.setTimeline t).burstStart = k.burstStart := rfl
@[simp] theorem Block.setTimeline_burstCount (t : Vector (BitVec w) 16) : (k.setTimeline t).burstCount = k.burstCount := rfl
@[simp] theorem Block.setTimeline_trace (t : Vector (BitVec w) 16) : (k.setTimeline t).trace = k.trace := rfl
@[simp] theorem Block.setTimeline_answers (t : Vector (BitVec w) 16) : (k.setTimeline t).answers = k.answers := rfl

@[simp] theorem Block.portWrite_timeline (t : Timing) (i : Slot) (ph : Phase) (v : BitVec w) : (k.portWrite t i ph v).timeline =
    k.timeline := rfl
@[simp] theorem Block.portWrite_activeMask (t : Timing) (i : Slot) (ph : Phase) (v : BitVec w) : (k.portWrite t i ph v).activeMask =
    k.activeMask := rfl
@[simp] theorem Block.portWrite_port (t : Timing) (i : Slot) (ph : Phase) (v : BitVec w) : (k.portWrite t i ph v).port = v := rfl
@[simp] theorem Block.portWrite_dir (t : Timing) (i : Slot) (ph : Phase) (v : BitVec w) : (k.portWrite t i ph v).dir = k.dir := rfl
@[simp] theorem Block.portWrite_timerConfigured (t : Timing) (i : Slot) (ph : Phase) (v : BitVec w) : (k.portWrite t i ph v).timerConfigured =
    k.timerConfigured := rfl
@[simp] theorem Block.portWrite_ie (t : Timing) (i : Slot) (ph : Phase) (v : BitVec w) : (k.portWrite t i ph v).ie = k.ie := rfl
@[simp] theorem Block.portWrite_tmrPending (t : Timing) (i : Slot) (ph : Phase) (v : BitVec w) : (k.portWrite t i ph v).tmrPending =
    k.tmrPending := rfl
@[simp] theorem Block.portWrite_tx (t : Timing) (i : Slot) (ph : Phase) (v : BitVec w) : (k.portWrite t i ph v).tx = k.tx := rfl
@[simp] theorem Block.portWrite_fg (t : Timing) (i : Slot) (ph : Phase) (v : BitVec w) : (k.portWrite t i ph v).fg = k.fg := rfl
@[simp] theorem Block.portWrite_tmrCount (t : Timing) (i : Slot) (ph : Phase) (v : BitVec w) : (k.portWrite t i ph v).tmrCount =
    k.tmrCount := rfl
@[simp] theorem Block.portWrite_now (t : Timing) (i : Slot) (ph : Phase) (v : BitVec w) : (k.portWrite t i ph v).now = k.now := rfl
@[simp] theorem Block.portWrite_burstStart (t : Timing) (i : Slot) (ph : Phase) (v : BitVec w) : (k.portWrite t i ph v).burstStart =
    k.burstStart := rfl
@[simp] theorem Block.portWrite_burstCount (t : Timing) (i : Slot) (ph : Phase) (v : BitVec w) : (k.portWrite t i ph v).burstCount =
    k.burstCount := rfl
@[simp] theorem Block.portWrite_trace (t : Timing) (i : Slot) (ph : Phase) (v : BitVec w) : (k.portWrite t i ph v).trace =
    k.trace ++ [{ burst := k.burstCount, slot := i, phase := ph, value := v, time := k.burstStart + t.eventOffset i ph }] := rfl
@[simp] theorem Block.portWrite_answers (t : Timing) (i : Slot) (ph : Phase) (v : BitVec w) : (k.portWrite t i ph v).answers = k.answers := rfl

@[simp] theorem Block.setActive_timeline (m : BitVec w) : (k.setActive m).timeline = k.timeline := rfl
@[simp] theorem Block.setActive_activeMask (m : BitVec w) : (k.setActive m).activeMask = m := rfl
@[simp] theorem Block.setActive_port (m : BitVec w) : (k.setActive m).port = k.port := rfl
@[simp] theorem Block.setActive_dir (m : BitVec w) : (k.setActive m).dir = k.dir := rfl
@[simp] theorem Block.setActive_timerConfigured (m : BitVec w) : (k.setActive m).timerConfigured = k.timerConfigured := rfl
@[simp] theorem Block.setActive_ie (m : BitVec w) : (k.setActive m).ie = k.ie := rfl
@[simp] theorem Block.setActive_tmrPending (m : BitVec w) : (k.setActive m).tmrPending = k.tmrPending := rfl
@[simp] theorem Block.setActive_tx (m : BitVec w) : (k.setActive m).tx = k.tx := rfl
@[simp] theorem Block.setActive_fg (m : BitVec w) : (k.setActive m).fg = k.fg := rfl
@[simp] theorem Block.setActive_tmrCount (m : BitVec w) : (k.setActive m).tmrCount = k.tmrCount := rfl
@[simp] theorem Block.setActive_now (m : BitVec w) : (k.setActive m).now = k.now := rfl
@[simp] theorem Block.setActive_burstStart (m : BitVec w) : (k.setActive m).burstStart = k.burstStart := rfl
@[simp] theorem Block.setActive_burstCount (m : BitVec w) : (k.setActive m).burstCount = k.burstCount := rfl
@[simp] theorem Block.setActive_trace (m : BitVec w) : (k.setActive m).trace = k.trace := rfl
@[simp] theorem Block.setActive_answers (m : BitVec w) : (k.setActive m).answers = k.answers := rfl

@[simp] theorem Block.makeOutputs_timeline (m : BitVec w) : (k.makeOutputs m).timeline = k.timeline := rfl
@[simp] theorem Block.makeOutputs_activeMask (m : BitVec w) : (k.makeOutputs m).activeMask = k.activeMask := rfl
@[simp] theorem Block.makeOutputs_port (m : BitVec w) : (k.makeOutputs m).port = k.port := rfl
@[simp] theorem Block.makeOutputs_dir (m : BitVec w) : (k.makeOutputs m).dir = k.dir ||| m := rfl
@[simp] theorem Block.makeOutputs_timerConfigured (m : BitVec w) : (k.makeOutputs m).timerConfigured = k.timerConfigured := rfl
@[simp] theorem Block.makeOutputs_ie (m : BitVec w) : (k.makeOutputs m).ie = k.ie := rfl
@[simp] theorem Block.makeOutputs_tmrPending (m : BitVec w) : (k.makeOutputs m).tmrPending = k.tmrPending := rfl
@[simp] theorem Block.makeOutputs_tx (m : BitVec w) : (k.makeOutputs m).tx = k.tx := rfl
@[simp] theorem Block.makeOutputs_fg (m : BitVec w) : (k.makeOutputs m).fg = k.fg := rfl
@[simp] theorem Block.makeOutputs_tmrCount (m : BitVec w) : (k.makeOutputs m).tmrCount = k.tmrCount := rfl
@[simp] theorem Block.makeOutputs_now (m : BitVec w) : (k.makeOutputs m).now = k.now := rfl
@[simp] theorem Block.makeOutputs_burstStart (m : BitVec w) : (k.makeOutputs m).burstStart = k.burstStart := rfl
@[simp] theorem Block.makeOutputs_burstCount (m : BitVec w) : (k.makeOutputs m).burstCount = k.burstCount := rfl
@[simp] theorem Block.makeOutputs_trace (m : BitVec w) : (k.makeOutputs m).trace = k.trace := rfl
@[simp] theorem Block.makeOutputs_answers (m : BitVec w) : (k.makeOutputs m).answers = k.answers := rfl

@[simp] theorem Block.raiseTimer_timeline : (k.raiseTimer).timeline = k.timeline := rfl
@[simp] theorem Block.raiseTimer_activeMask : (k.raiseTimer).activeMask = k.activeMask := rfl
@[simp] theorem Block.raiseTimer_port : (k.raiseTimer).port = k.port := rfl
@[simp] theorem Block.raiseTimer_dir : (k.raiseTimer).dir = k.dir := rfl
@[simp] theorem Block.raiseTimer_timerConfigured : (k.raiseTimer).timerConfigured = k.timerConfigured := rfl
@[simp] theorem Block.raiseTimer_ie : (k.raiseTimer).ie = k.ie := rfl
@[simp] theorem Block.raiseTimer_tmrPending : (k.raiseTimer).tmrPending = true := rfl
@[simp] theorem Block.raiseTimer_tx : (k.raiseTimer).tx = k.tx := rfl
@[simp] theorem Block.raiseTimer_fg : (k.raiseTimer).fg = k.fg := rfl
@[simp] theorem Block.raiseTimer_tmrCount : (k.raiseTimer).tmrCount = k.tmrCount := rfl
@[simp] theorem Block.raiseTimer_now : (k.raiseTimer).now = k.now := rfl
@[simp] theorem Block.raiseTimer_burstStart : (k.raiseTimer).burstStart = k.burstStart := rfl
@[simp] theorem Block.raiseTimer_burstCount : (k.raiseTimer).burstCount = k.burstCount := rfl
@[simp] theorem Block.raiseTimer_trace : (k.raiseTimer).trace = k.trace := rfl
@[simp] theorem Block.raiseTimer_answers : (k.raiseTimer).answers = k.answers := rfl

@[simp] theorem Block.setTmrCount_timeline (n : Time) : (k.setTmrCount n).timeline = k.timeline := rfl
@[simp] theorem Block.setTmrCount_activeMask (n : Time) : (k.setTmrCount n).activeMask = k.activeMask := rfl
@[simp] theorem Block.setTmrCount_port (n : Time) : (k.setTmrCount n).port = k.port := rfl
@[simp] theorem Block.setTmrCount_dir (n : Time) : (k.setTmrCount n).dir = k.dir := rfl
@[simp] theorem Block.setTmrCount_timerConfigured (n : Time) : (k.setTmrCount n).timerConfigured = k.timerConfigured := rfl
@[simp] theorem Block.setTmrCount_ie (n : Time) : (k.setTmrCount n).ie = k.ie := rfl
@[simp] theorem Block.setTmrCount_tmrPending (n : Time) : (k.setTmrCount n).tmrPending = k.tmrPending := rfl
@[simp] theorem Block.setTmrCount_tx (n : Time) : (k.setTmrCount n).tx = k.tx := rfl
@[simp] theorem Block.setTmrCount_fg (n : Time) : (k.setTmrCount n).fg = k.fg := rfl
@[simp] theorem Block.setTmrCount_tmrCount (n : Time) : (k.setTmrCount n).tmrCount = n := rfl
@[simp] theorem Block.setTmrCount_now (n : Time) : (k.setTmrCount n).now = k.now := rfl
@[simp] theorem Block.setTmrCount_burstStart (n : Time) : (k.setTmrCount n).burstStart = k.burstStart := rfl
@[simp] theorem Block.setTmrCount_burstCount (n : Time) : (k.setTmrCount n).burstCount = k.burstCount := rfl
@[simp] theorem Block.setTmrCount_trace (n : Time) : (k.setTmrCount n).trace = k.trace := rfl
@[simp] theorem Block.setTmrCount_answers (n : Time) : (k.setTmrCount n).answers = k.answers := rfl

@[simp] theorem Block.setNow_timeline (n : Time) : (k.setNow n).timeline = k.timeline := rfl
@[simp] theorem Block.setNow_activeMask (n : Time) : (k.setNow n).activeMask = k.activeMask := rfl
@[simp] theorem Block.setNow_port (n : Time) : (k.setNow n).port = k.port := rfl
@[simp] theorem Block.setNow_dir (n : Time) : (k.setNow n).dir = k.dir := rfl
@[simp] theorem Block.setNow_timerConfigured (n : Time) : (k.setNow n).timerConfigured = k.timerConfigured := rfl
@[simp] theorem Block.setNow_ie (n : Time) : (k.setNow n).ie = k.ie := rfl
@[simp] theorem Block.setNow_tmrPending (n : Time) : (k.setNow n).tmrPending = k.tmrPending := rfl
@[simp] theorem Block.setNow_tx (n : Time) : (k.setNow n).tx = k.tx := rfl
@[simp] theorem Block.setNow_fg (n : Time) : (k.setNow n).fg = k.fg := rfl
@[simp] theorem Block.setNow_tmrCount (n : Time) : (k.setNow n).tmrCount = k.tmrCount := rfl
@[simp] theorem Block.setNow_now (n : Time) : (k.setNow n).now = n := rfl
@[simp] theorem Block.setNow_burstStart (n : Time) : (k.setNow n).burstStart = k.burstStart := rfl
@[simp] theorem Block.setNow_burstCount (n : Time) : (k.setNow n).burstCount = k.burstCount := rfl
@[simp] theorem Block.setNow_trace (n : Time) : (k.setNow n).trace = k.trace := rfl
@[simp] theorem Block.setNow_answers (n : Time) : (k.setNow n).answers = k.answers := rfl

@[simp] theorem Block.setTx_timeline (t : Tx) : (k.setTx t).timeline = k.timeline := rfl
@[simp] theorem Block.setTx_activeMask (t : Tx) : (k.setTx t).activeMask = k.activeMask := rfl
@[simp] theorem Block.setTx_port (t : Tx) : (k.setTx t).port = k.port := rfl
@[simp] theorem Block.setTx_dir (t : Tx) : (k.setTx t).dir = k.dir := rfl
@[simp] theorem Block.setTx_timerConfigured (t : Tx) : (k.setTx t).timerConfigured = k.timerConfigured := rfl
@[simp] theorem Block.setTx_ie (t : Tx) : (k.setTx t).ie = k.ie := rfl
@[simp] theorem Block.setTx_tmrPending (t : Tx) : (k.setTx t).tmrPending = k.tmrPending := rfl
@[simp] theorem Block.setTx_tx (t : Tx) : (k.setTx t).tx = t := rfl
@[simp] theorem Block.setTx_fg (t : Tx) : (k.setTx t).fg = k.fg := rfl
@[simp] theorem Block.setTx_tmrCount (t : Tx) : (k.setTx t).tmrCount = k.tmrCount := rfl
@[simp] theorem Block.setTx_now (t : Tx) : (k.setTx t).now = k.now := rfl
@[simp] theorem Block.setTx_burstStart (t : Tx) : (k.setTx t).burstStart = k.burstStart := rfl
@[simp] theorem Block.setTx_burstCount (t : Tx) : (k.setTx t).burstCount = k.burstCount := rfl
@[simp] theorem Block.setTx_trace (t : Tx) : (k.setTx t).trace = k.trace := rfl
@[simp] theorem Block.setTx_answers (t : Tx) : (k.setTx t).answers = k.answers := rfl

@[simp] theorem Block.setFg_timeline (f : Fg w) : (k.setFg f).timeline = k.timeline := rfl
@[simp] theorem Block.setFg_activeMask (f : Fg w) : (k.setFg f).activeMask = k.activeMask := rfl
@[simp] theorem Block.setFg_port (f : Fg w) : (k.setFg f).port = k.port := rfl
@[simp] theorem Block.setFg_dir (f : Fg w) : (k.setFg f).dir = k.dir := rfl
@[simp] theorem Block.setFg_timerConfigured (f : Fg w) : (k.setFg f).timerConfigured = k.timerConfigured := rfl
@[simp] theorem Block.setFg_ie (f : Fg w) : (k.setFg f).ie = k.ie := rfl
@[simp] theorem Block.setFg_tmrPending (f : Fg w) : (k.setFg f).tmrPending = k.tmrPending := rfl
@[simp] theorem Block.setFg_tx (f : Fg w) : (k.setFg f).tx = k.tx := rfl
@[simp] theorem Block.setFg_fg (f : Fg w) : (k.setFg f).fg = f := rfl
@[simp] theorem Block.setFg_tmrCount (f : Fg w) : (k.setFg f).tmrCount = k.tmrCount := rfl
@[simp] theorem Block.setFg_now (f : Fg w) : (k.setFg f).now = k.now := rfl
@[simp] theorem Block.setFg_burstStart (f : Fg w) : (k.setFg f).burstStart = k.burstStart := rfl
@[simp] theorem Block.setFg_burstCount (f : Fg w) : (k.setFg f).burstCount = k.burstCount := rfl
@[simp] theorem Block.setFg_trace (f : Fg w) : (k.setFg f).trace = k.trace := rfl
@[simp] theorem Block.setFg_answers (f : Fg w) : (k.setFg f).answers = k.answers := rfl

@[simp] theorem Block.answer_timeline (a : Answer w) : (k.answer a).timeline = k.timeline := rfl
@[simp] theorem Block.answer_activeMask (a : Answer w) : (k.answer a).activeMask = k.activeMask := rfl
@[simp] theorem Block.answer_port (a : Answer w) : (k.answer a).port = k.port := rfl
@[simp] theorem Block.answer_dir (a : Answer w) : (k.answer a).dir = k.dir := rfl
@[simp] theorem Block.answer_timerConfigured (a : Answer w) : (k.answer a).timerConfigured = k.timerConfigured := rfl
@[simp] theorem Block.answer_ie (a : Answer w) : (k.answer a).ie = k.ie := rfl
@[simp] theorem Block.answer_tmrPending (a : Answer w) : (k.answer a).tmrPending = k.tmrPending := rfl
@[simp] theorem Block.answer_tx (a : Answer w) : (k.answer a).tx = k.tx := rfl
@[simp] theorem Block.answer_fg (a : Answer w) : (k.answer a).fg = k.fg := rfl
@[simp] theorem Block.answer_tmrCount (a : Answer w) : (k.answer a).tmrCount = k.tmrCount := rfl
@[simp] theorem Block.answer_now (a : Answer w) : (k.answer a).now = k.now := rfl
@[simp] theorem Block.answer_burstStart (a : Answer w) : (k.answer a).burstStart = k.burstStart := rfl
@[simp] theorem Block.answer_burstCount (a : Answer w) : (k.answer a).burstCount = k.burstCount := rfl
@[simp] theorem Block.answer_trace (a : Answer w) : (k.answer a).trace = k.trace := rfl
@[simp] theorem Block.answer_answers (a : Answer w) : (k.answer a).answers = k.answers ++ [a] := rfl

@[simp] theorem Block.enterInterrupt_timeline : (k.enterInterrupt).timeline = k.timeline := rfl
@[simp] theorem Block.enterInterrupt_activeMask : (k.enterInterrupt).activeMask = k.activeMask := rfl
@[simp] theorem Block.enterInterrupt_port : (k.enterInterrupt).port = k.port := rfl
@[simp] theorem Block.enterInterrupt_dir : (k.enterInterrupt).dir = k.dir := rfl
@[simp] theorem Block.enterInterrupt_timerConfigured : (k.enterInterrupt).timerConfigured = k.timerConfigured := rfl
@[simp] theorem Block.enterInterrupt_ie : (k.enterInterrupt).ie = false := rfl
@[simp] theorem Block.enterInterrupt_tmrPending : (k.enterInterrupt).tmrPending = false := rfl
@[simp] theorem Block.enterInterrupt_tx : (k.enterInterrupt).tx = { k.tx with state := .armed } := rfl
@[simp] theorem Block.enterInterrupt_fg : (k.enterInterrupt).fg = k.fg := rfl
@[simp] theorem Block.enterInterrupt_tmrCount : (k.enterInterrupt).tmrCount = k.tmrCount := rfl
@[simp] theorem Block.enterInterrupt_now : (k.enterInterrupt).now = k.now := rfl
@[simp] theorem Block.enterInterrupt_burstStart : (k.enterInterrupt).burstStart = k.now := rfl
@[simp] theorem Block.enterInterrupt_burstCount : (k.enterInterrupt).burstCount = k.burstCount + 1 := rfl
@[simp] theorem Block.enterInterrupt_trace : (k.enterInterrupt).trace = k.trace := rfl
@[simp] theorem Block.enterInterrupt_answers : (k.enterInterrupt).answers = k.answers := rfl

@[simp] theorem Block.leaveInterrupt_timeline : (k.leaveInterrupt).timeline = k.timeline := rfl
@[simp] theorem Block.leaveInterrupt_activeMask : (k.leaveInterrupt).activeMask = k.activeMask := rfl
@[simp] theorem Block.leaveInterrupt_port : (k.leaveInterrupt).port = k.port := rfl
@[simp] theorem Block.leaveInterrupt_dir : (k.leaveInterrupt).dir = k.dir := rfl
@[simp] theorem Block.leaveInterrupt_timerConfigured : (k.leaveInterrupt).timerConfigured = k.timerConfigured := rfl
@[simp] theorem Block.leaveInterrupt_ie : (k.leaveInterrupt).ie = true := rfl
@[simp] theorem Block.leaveInterrupt_tmrPending : (k.leaveInterrupt).tmrPending = k.tmrPending := rfl
@[simp] theorem Block.leaveInterrupt_tx : (k.leaveInterrupt).tx = { k.tx with state := .idle } := rfl
@[simp] theorem Block.leaveInterrupt_fg : (k.leaveInterrupt).fg = k.fg := rfl
@[simp] theorem Block.leaveInterrupt_tmrCount : (k.leaveInterrupt).tmrCount = k.tmrCount := rfl
@[simp] theorem Block.leaveInterrupt_now : (k.leaveInterrupt).now = k.now := rfl
@[simp] theorem Block.leaveInterrupt_burstStart : (k.leaveInterrupt).burstStart = k.burstStart := rfl
@[simp] theorem Block.leaveInterrupt_burstCount : (k.leaveInterrupt).burstCount = k.burstCount := rfl
@[simp] theorem Block.leaveInterrupt_trace : (k.leaveInterrupt).trace = k.trace := rfl
@[simp] theorem Block.leaveInterrupt_answers : (k.leaveInterrupt).answers = k.answers := rfl

@[simp] theorem Block.startTimer_timeline : (k.startTimer).timeline =
    k.timeline := by rw [Block.startTimer_eq]
@[simp] theorem Block.startTimer_activeMask : (k.startTimer).activeMask =
    k.activeMask := by rw [Block.startTimer_eq]
@[simp] theorem Block.startTimer_port : (k.startTimer).port =
    k.port := by rw [Block.startTimer_eq]
@[simp] theorem Block.startTimer_dir : (k.startTimer).dir =
    k.dir := by rw [Block.startTimer_eq]
@[simp] theorem Block.startTimer_timerConfigured : (k.startTimer).timerConfigured =
    true := by rw [Block.startTimer_eq]
@[simp] theorem Block.startTimer_ie : (k.startTimer).ie =
    k.ie := by rw [Block.startTimer_eq]
@[simp] theorem Block.startTimer_tmrPending : (k.startTimer).tmrPending =
    k.tmrPending := by rw [Block.startTimer_eq]
@[simp] theorem Block.startTimer_tx : (k.startTimer).tx =
    k.tx := by rw [Block.startTimer_eq]
@[simp] theorem Block.startTimer_fg : (k.startTimer).fg =
    k.fg := by rw [Block.startTimer_eq]
@[simp] theorem Block.startTimer_tmrCount : (k.startTimer).tmrCount =
    k.tmrCount := by rw [Block.startTimer_eq]
@[simp] theorem Block.startTimer_now : (k.startTimer).now =
    k.now := by rw [Block.startTimer_eq]
@[simp] theorem Block.startTimer_burstStart : (k.startTimer).burstStart =
    k.burstStart := by rw [Block.startTimer_eq]
@[simp] theorem Block.startTimer_burstCount : (k.startTimer).burstCount =
    k.burstCount := by rw [Block.startTimer_eq]
@[simp] theorem Block.startTimer_trace : (k.startTimer).trace =
    k.trace := by rw [Block.startTimer_eq]
@[simp] theorem Block.startTimer_answers : (k.startTimer).answers =
    k.answers := by rw [Block.startTimer_eq]

@[simp] theorem Block.passTime_timeline (tFrame n : Time) : (k.passTime tFrame n).timeline =
    k.timeline := by rw [Block.passTime_eq]
@[simp] theorem Block.passTime_activeMask (tFrame n : Time) : (k.passTime tFrame n).activeMask =
    k.activeMask := by rw [Block.passTime_eq]
@[simp] theorem Block.passTime_port (tFrame n : Time) : (k.passTime tFrame n).port =
    k.port := by rw [Block.passTime_eq]
@[simp] theorem Block.passTime_dir (tFrame n : Time) : (k.passTime tFrame n).dir =
    k.dir := by rw [Block.passTime_eq]
@[simp] theorem Block.passTime_timerConfigured (tFrame n : Time) : (k.passTime tFrame n).timerConfigured =
    k.timerConfigured := by rw [Block.passTime_eq]
@[simp] theorem Block.passTime_ie (tFrame n : Time) : (k.passTime tFrame n).ie =
    k.ie := by rw [Block.passTime_eq]
@[simp] theorem Block.passTime_tmrPending (tFrame n : Time) : (k.passTime tFrame n).tmrPending =
    (k.tmrPending || (k.timerConfigured && decide (tFrame ≤ k.tmrCount + n))) := by rw [Block.passTime_eq]
@[simp] theorem Block.passTime_tx (tFrame n : Time) : (k.passTime tFrame n).tx =
    k.tx := by rw [Block.passTime_eq]
@[simp] theorem Block.passTime_fg (tFrame n : Time) : (k.passTime tFrame n).fg =
    k.fg := by rw [Block.passTime_eq]
@[simp] theorem Block.passTime_tmrCount (tFrame n : Time) : (k.passTime tFrame n).tmrCount =
    (if k.timerConfigured = true then
      if tFrame ≤ k.tmrCount + n then phaseOf tFrame (k.tmrCount + n) else k.tmrCount + n
    else k.tmrCount) := by rw [Block.passTime_eq]
@[simp] theorem Block.passTime_now (tFrame n : Time) : (k.passTime tFrame n).now =
    k.now + n := by rw [Block.passTime_eq]
@[simp] theorem Block.passTime_burstStart (tFrame n : Time) : (k.passTime tFrame n).burstStart =
    k.burstStart := by rw [Block.passTime_eq]
@[simp] theorem Block.passTime_burstCount (tFrame n : Time) : (k.passTime tFrame n).burstCount =
    k.burstCount := by rw [Block.passTime_eq]
@[simp] theorem Block.passTime_trace (tFrame n : Time) : (k.passTime tFrame n).trace =
    k.trace := by rw [Block.passTime_eq]
@[simp] theorem Block.passTime_answers (tFrame n : Time) : (k.passTime tFrame n).answers =
    k.answers := by rw [Block.passTime_eq]

@[simp] theorem State.setInputs_platform (s : State) (l : List Input) : (s.setInputs l).platform = s.platform := rfl
@[simp] theorem State.setInputs_block (s : State) (l : List Input) : (s.setInputs l).block = s.block := rfl
@[simp] theorem State.setInputs_inputs (s : State) (l : List Input) : (s.setInputs l).inputs = l := rfl

end Sys2Proof.Machine
end

