-- ==== Sys2Proof/Laws/Ops.lean ====
section
/-!
SUPPORT. What each shared operation can do, said once: the shapes in which an operation answers, the timeline's read after write, and the
lane formulas bit by bit.
-/

namespace Sys2Proof.Machine

/-- A sequence answers a next state exactly when both parts do. -/
theorem Result.andThen_next {r : Result} {f : State → Result} {t : State} :
    r.andThen f = .next t ↔ ∃ u, r = .next u ∧ f u = .next t := by
  cases r <;> simp [Result.andThen]

@[simp] theorem Result.andThen_of_next (s : State) (f : State → Result) :
    Result.andThen (.next s) f = f s := rfl

/-- A host step answers a next state exactly outside a burst and when it is due, and then that of its effect. -/
theorem hostStep_next {s t : State} {k : Block s.platform.portW} {due : Bool} {why : Refusal} :
    hostStep s due why k = .next t ↔ s.block.tx.state = .idle ∧ due = true ∧ t = { s with block := k } := by
  unfold hostStep Block.inBurst
  by_cases h : s.block.tx.state = .idle <;> cases due <;> simp [h, eq_comm]

/-- A new host operation answers a next state exactly when the host is ready. -/
theorem hostOperation_next {s t : State} {k : Block s.platform.portW} :
    hostOperation s k = .next t ↔ s.block.HostReady ∧ t = { s with block := k } := by
  unfold hostOperation Block.HostReady Block.operationInProgress
  rw [hostStep_next]
  simp [and_assoc]

theorem microStep_next {s t : State} {k : Block s.platform.portW} {due : Bool} :
    microStep s due k = .next t ↔ s.block.tx.state = .idle ∧ due = true ∧ t = { s with block := k } := hostStep_next

theorem burstStep_next {s t : State} {k : Block s.platform.portW} {due : Bool} :
    burstStep s due k = .next t ↔ due = true ∧ t = { s with block := k } := by
  unfold burstStep
  cases due <;> simp [eq_comm]

theorem burstStep_block {s t : State} {k : Block s.platform.portW} {due : Bool} (h : burstStep s due k = .next t) :
    ∃ k' : Block s.platform.portW, t = { s with block := k' } := ⟨k, (burstStep_next.1 h).2⟩

/-- TIMER_FIRE can only raise the pending flag. -/
theorem execTimerFire_next {s t : State} :
    execTimerFire s = .next t ↔ s.block.timerConfigured = true ∧ t = { s with block := s.block.raiseTimer } := by
  unfold execTimerFire
  cases h : s.block.timerConfigured <;> simp [eq_comm]

/-- BURST_ENTER can only enter the interrupt, where it can be accepted. -/
theorem execBurstEnter_next {s t : State} :
    execBurstEnter s = .next t ↔ s.block.interruptAcceptable = true ∧ t = { s with block := s.block.enterInterrupt } := by
  unfold execBurstEnter
  cases h : s.block.interruptAcceptable <;> simp [eq_comm]

/-- The port writes of some slots change the block only. -/
theorem emitSlots_block {n : Nat} {s t : State} (h : emitSlots n s = .next t) :
    ∃ k : Block s.platform.portW, t = { s with block := k } := by
  induction n generalizing s with
  | zero => exact ⟨s.block, (Host.Outcome.next.inj h).symm⟩
  | succ n ih =>
    obtain ⟨u, hu, h⟩ := Result.andThen_next.1 h
    obtain ⟨u₁, h₁, hu⟩ := Result.andThen_next.1 hu
    obtain ⟨u₂, h₂, hu⟩ := Result.andThen_next.1 hu
    obtain ⟨k₁, rfl⟩ := burstStep_block h₁
    obtain ⟨k₂, rfl⟩ := burstStep_block h₂
    obtain ⟨k₃, rfl⟩ := burstStep_block hu
    exact ih (s := { s with block := k₃ }) h

/-- FIRE changes the block only. -/
theorem execFire_block {s t : State} (h : execFire s = .next t) : ∃ k : Block s.platform.portW, t = { s with block := k } := by
  unfold execFire at h
  split at h
  · cases h
  · obtain ⟨u₁, h₁, h⟩ := Result.andThen_next.1 h
    obtain ⟨u₂, h₂, h⟩ := Result.andThen_next.1 h
    obtain ⟨u₃, h₃, h⟩ := Result.andThen_next.1 h
    obtain ⟨-, rfl⟩ := execTimerFire_next.1 h₁
    obtain ⟨-, rfl⟩ := execBurstEnter_next.1 h₂
    obtain ⟨k, rfl⟩ := emitSlots_block h₃
    obtain ⟨k', rfl⟩ := burstStep_block h
    exact ⟨k', rfl⟩

/-- No operation writes the run's parameters or the schedule: where it answers a next state, only the block can differ. -/
theorem exec_next {i : Instr} {s t : State} (h : exec i s = .next t) : ∃ k : Block s.platform.portW, t = { s with block := k } := by
  have host : ∀ {k : Block s.platform.portW}, hostOperation s k = .next t → ∃ k' : Block s.platform.portW, t = { s with block := k' } :=
    fun h => ⟨_, (hostOperation_next.1 h).2⟩
  have micro : ∀ {due : Bool} {k : Block s.platform.portW}, microStep s due k = .next t →
      ∃ k' : Block s.platform.portW, t = { s with block := k' } := fun h => ⟨_, (microStep_next.1 h).2.2⟩
  have give : ∀ {a : Answer s.platform.portW}, giveBack s a = .next t → ∃ k' : Block s.platform.portW, t = { s with block := k' } :=
    fun h => ⟨_, (Host.Outcome.next.inj h).symm⟩
  cases i with
  | nop => exact ⟨s.block, (Host.Outcome.next.inj h).symm⟩
  | reqReserved => cases h
  | attach _ => exact host h
  | setThrottle _ _ => exact host h
  | dirset _ => exact host h
  | latch _ _ => exact host h
  | tmrcfg => exact micro h
  | tlc _ => exact micro h
  | amclr => exact micro h
  | amor => exact micro h
  | tlw _ => exact micro h
  | encode _ => exact give h
  | fPayload _ _ => exact give h
  | fFrame _ _ _ => exact give h
  | fTimeline _ => exact give h
  | sym0 => exact give h
  | sym1 => exact give h
  | fBurst _ => exact give h
  | timerFire => exact ⟨_, (execTimerFire_next.1 h).2⟩
  | burstEnter => exact ⟨_, (execBurstEnter_next.1 h).2⟩
  | emitH => exact burstStep_block h
  | emitM => exact burstStep_block h
  | emitL => exact burstStep_block h
  | burstExit => exact burstStep_block h
  | fire => exact execFire_block h

@[simp] theorem State.setInputs_mk (p : Platform) (k : Block p.portW) (l l' : List Input) :
    (State.mk p k l).setInputs l' = ⟨p, k, l'⟩ := rfl
@[simp] theorem State.passTime_mk (p : Platform) (k : Block p.portW) (l : List Input) (n : Nat) :
    (State.mk p k l).passTime n = ⟨p, k.passTime p.timing.tFrame n, l⟩ := rfl
@[simp] theorem State.awaitStep_mk (p : Platform) (k : Block p.portW) (l : List Input) :
    (State.mk p k l).awaitStep = ⟨p, k.awaitStep p.timing, l⟩ := rfl

/-- Outside a burst no step is awaited. -/
theorem Block.awaitStep_idle {w : Nat} {k : Block w} {t : Timing} (h : k.inBurst = false) : k.awaitStep t = k := by
  simp [Block.awaitStep, h]

/-- In a burst the time up to its next step passes. -/
theorem Block.awaitStep_burst {w : Nat} {k : Block w} {t : Timing} (h : k.inBurst = true) :
    k.awaitStep t = k.passTime t.tFrame (k.untilStep t) := by
  simp [Block.awaitStep, h]

/-- The phase is what is left of a count after some whole number of periods, for any such number that leaves less than a period. -/
theorem phaseOf_eq {tFrame count : Time} (m : ℤ) (hl : m * tFrame ≤ count) (hu : count < (m + 1) * tFrame) :
    phaseOf tFrame count = count - m * tFrame := by
  have h : 0 < tFrame := by linarith
  have hm : ⌊count / tFrame⌋ = m := by
    rw [Int.floor_eq_iff, le_div_iff₀ h, div_lt_iff₀ h]
    exact ⟨hl, hu⟩
  rw [phaseOf, Int.fract, hm, sub_mul, div_mul_cancel₀ _ h.ne']

/-- The phase is not negative and below the period. -/
theorem phaseOf_bound {tFrame : Time} (h : 0 < tFrame) (count : Time) :
    0 ≤ phaseOf tFrame count ∧ phaseOf tFrame count < tFrame :=
  ⟨mul_nonneg (Int.fract_nonneg _) h.le, (mul_lt_iff_lt_one_left h).2 (Int.fract_lt_one _)⟩

/-- A timer that has just reached its period starts it again. -/
@[simp] theorem phaseOf_self (tFrame : Time) : phaseOf tFrame tFrame = 0 := by
  by_cases h : tFrame = 0 <;> simp [phaseOf, h]

/-- The phase goes on from the phase. -/
theorem phaseOf_phaseOf_add {tFrame : Time} (h : 0 < tFrame) (count n : Time) :
    phaseOf tFrame (phaseOf tFrame count + n) = phaseOf tFrame (count + n) := by
  have e : (Int.fract (count / tFrame) * tFrame + n) / tFrame = (count + n) / tFrame - ⌊count / tFrame⌋ := by
    rw [Int.fract]
    field_simp
    ring
  simp only [phaseOf, e, Int.fract_sub_intCast]

/-- Time that passes in two parts passes as one. -/
theorem Block.passTime_passTime {w : Nat} (k : Block w) {tFrame b : Time} (h : 0 < tFrame) (hb : 0 ≤ b) (a : Time) :
    (k.passTime tFrame a).passTime tFrame b = k.passTime tFrame (a + b) := by
  simp only [Block.passTime_eq, add_assoc]
  by_cases hc : k.timerConfigured = true
  · by_cases ha : tFrame ≤ k.tmrCount + a
    · have hab : tFrame ≤ k.tmrCount + (a + b) := by linarith
      have hp := phaseOf_bound h (k.tmrCount + a)
      have hg := phaseOf_phaseOf_add h (k.tmrCount + a) b
      rw [add_assoc] at hg
      have hs : ¬ tFrame ≤ phaseOf tFrame (k.tmrCount + a) + b →
          phaseOf tFrame (k.tmrCount + a) + b = phaseOf tFrame (k.tmrCount + (a + b)) := by
        intro hn
        rw [← hg]
        have := phaseOf_eq (tFrame := tFrame) (count := phaseOf tFrame (k.tmrCount + a) + b) 0 (by simp; linarith) (by simp; linarith)
        rw [this]
        simp
      by_cases hn : tFrame ≤ phaseOf tFrame (k.tmrCount + a) + b
      · simp [hc, ha, hab, hn, hg]
      · simp [hc, ha, hab, hs hn, not_le.2 (phaseOf_bound h (k.tmrCount + (a + b))).2]
    · simp [hc, ha, add_assoc]
  · simp [hc]

/-- The state `advance` moves to is that of some operation, at its time, or the present one. -/
theorem advance_next {s t : State} (h : advance s = .next t) :
    (∃ i, s.block.nextMove = some i ∧ exec i s.awaitStep = .next t) ∨ (s.block.nextMove = none ∧ t = s) := by
  unfold advance at h
  split at h
  · exact .inl ⟨_, ‹_›, h⟩
  · exact .inr ⟨‹_›, (Host.Outcome.next.inj h).symm⟩

/-- What the passing of time can do: give way to a firing that can be accepted, pass in whole, run up to a burst's next step and take it, or
run up to a firing. -/
theorem elapseTime_next {n : Time} {rest : List Input} {s t : State} (h : elapseTime n rest s = .next t) :
    (s.block.interruptAcceptable = true ∧ advance s = .next t) ∨
    (s.block.interruptAcceptable = false ∧ s.block.inBurst = true ∧ n < s.block.untilStep s.platform.timing ∧
      t = (s.passTime n).setInputs rest) ∨
    (s.block.interruptAcceptable = false ∧ s.block.inBurst = true ∧ s.block.untilStep s.platform.timing ≤ n ∧
      advance (s.setInputs (.elapse (n - s.block.untilStep s.platform.timing) :: rest)) = .next t) ∨
    (s.block.interruptAcceptable = false ∧ s.block.inBurst = false ∧
      (∀ d, s.block.untilFiring s.platform.timing.tFrame = some d → n < d) ∧ t = (s.passTime n).setInputs rest) ∨
    (s.block.interruptAcceptable = false ∧ s.block.inBurst = false ∧
      ∃ d, s.block.untilFiring s.platform.timing.tFrame = some d ∧ d ≤ n ∧
        t = (s.passTime d).setInputs (.elapse (n - d) :: rest)) := by
  unfold elapseTime at h
  split at h
  · exact .inl ⟨‹_›, h⟩
  rename_i ha
  simp only [Bool.not_eq_true] at ha
  split at h
  · rename_i hb
    dsimp only at h
    split at h
    · exact .inr (.inl ⟨ha, hb, ‹_›, (Host.Outcome.next.inj h).symm⟩)
    · exact .inr (.inr (.inl ⟨ha, hb, le_of_not_gt ‹_›, h⟩))
  · rename_i hb
    simp only [Bool.not_eq_true] at hb
    split at h
    · rename_i hd
      exact .inr (.inr (.inr (.inl ⟨ha, hb, by simp [hd], (Host.Outcome.next.inj h).symm⟩)))
    · rename_i d hd
      split at h
      · refine .inr (.inr (.inr (.inl ⟨ha, hb, ?_, (Host.Outcome.next.inj h).symm⟩)))
        rintro d' h'
        rw [hd] at h'
        cases h'
        assumption
      · exact .inr (.inr (.inr (.inr ⟨ha, hb, d, hd, le_of_not_gt ‹_›, (Host.Outcome.next.inj h).symm⟩)))

/-- What one step can do: time passes, the agent whose turn it is moves, or the item at the head of the schedule is carried out. -/
theorem step_cases {s t : State} (h : step s = .next t) :
    (∃ n rest, s.inputs = .elapse n :: rest ∧ elapseTime (max n 0) rest s = .next t) ∨
    (∃ rest, s.inputs = .advance :: rest ∧ advance (s.setInputs rest) = .next t) ∨
    ((s.inputs = [] ∨ ∃ x rest, s.inputs = x :: rest ∧ x.waitsForHost = true ∧
        (s.block.hostSuspended = true ∨ s.block.operationInProgress = true)) ∧ advance s = .next t) ∨
    (∃ i rest, s.inputs = .line i :: rest ∧ (isHostMove i = true → s.block.hostSuspended = false) ∧
      exec i (s.setInputs rest) = .next t) ∨
    (∃ r rest, s.inputs = .request r :: rest ∧ s.block.hostSuspended = false ∧ s.block.operationInProgress = false ∧
      exec (s.platform.requested r) (s.setInputs rest) = .next t) ∨
    (∃ r rest, s.inputs = .requestStepwise r :: rest ∧ s.block.hostSuspended = false ∧ s.block.operationInProgress = false ∧
      exec (firstMicroStep (s.platform.requested r)) (s.setInputs rest) = .next t) := by
  unfold step runInput at h
  split at h
  case h_1 hi => exact .inr (.inr (.inl ⟨.inl hi, h⟩))
  case h_2 n rest hi => exact .inl ⟨n, rest, hi, h⟩
  case h_3 rest hi => exact .inr (.inl ⟨rest, hi, h⟩)
  case h_4 i rest hi =>
    split at h
    · rename_i hc
      simp only [Bool.and_eq_true] at hc
      exact .inr (.inr (.inl ⟨.inr ⟨_, rest, hi, hc.1, .inl hc.2⟩, h⟩))
    · rename_i hc
      simp only [Bool.and_eq_true, not_and, Bool.not_eq_true] at hc
      exact .inr (.inr (.inr (.inl ⟨i, rest, hi, hc, h⟩)))
  case h_5 w rest hi =>
    split at h
    · rename_i hc
      simp only [Bool.or_eq_true] at hc
      exact .inr (.inr (.inl ⟨.inr ⟨_, rest, hi, rfl, hc⟩, h⟩))
    · rename_i hc
      simp only [Bool.or_eq_true, not_or, Bool.not_eq_true] at hc
      exact .inr (.inr (.inr (.inr (.inl ⟨w, rest, hi, hc.1, hc.2, h⟩))))
  case h_6 w rest hi =>
    split at h
    · rename_i hc
      simp only [Bool.or_eq_true] at hc
      exact .inr (.inr (.inl ⟨.inr ⟨_, rest, hi, rfl, hc⟩, h⟩))
    · rename_i hc
      simp only [Bool.or_eq_true, not_or, Bool.not_eq_true] at hc
      exact .inr (.inr (.inr (.inr (.inr ⟨w, rest, hi, hc.1, hc.2, h⟩))))

@[simp] theorem Block.tlRead_tlWrite {w : Nat} (k : Block w) (i : Slot) (v : BitVec w) : (k.tlWrite i v).tlRead i = v := by
  simp [Block.tlRead]

/-- A write of one timeline entry leaves every other one alone. -/
theorem Block.tlRead_tlWrite_of_ne {w : Nat} (k : Block w) {i j : Slot} (h : i ≠ j) (v : BitVec w) :
    (k.tlWrite i v).tlRead j = k.tlRead j := by
  have h' : i.val ≠ j.val := fun e => h (Fin.ext e)
  simp [Block.tlRead, h']

/-- A burst step's effect on one lane does not depend on the other lanes: EMIT_H. -/
theorem raiseLanes_bit {w : Nat} (port active : BitVec w) (b : Nat) :
    (raiseLanes port active).getLsbD b = (port.getLsbD b || active.getLsbD b) := by
  simp [raiseLanes]

/-- EMIT_L on one lane. -/
theorem dropLanes_bit {w : Nat} (port active : BitVec w) (b : Nat) :
    (dropLanes port active).getLsbD b = (port.getLsbD b && !active.getLsbD b) := by
  by_cases h : b < w <;> simp [dropLanes, h, Nat.le_of_not_lt]

/-- EMIT_M on one lane. -/
theorem keepLanes_bit {w : Nat} (port active entry : BitVec w) (b : Nat) :
    (keepLanes port active entry).getLsbD b = (port.getLsbD b && (entry.getLsbD b || !active.getLsbD b)) := by
  by_cases h : b < w <;> simp [keepLanes, h, Nat.le_of_not_lt]

/-- The frame bit a slot carries, in a frame given bit by bit from the first slot on. -/
theorem frameBit_ofFnBE (f : Slot → Bool) (i : Slot) : frameBit (BitVec.ofFnBE (n := 16) f) i = f i := by
  have h : 15 - i.val < 16 := by omega
  simp only [frameBit]
  rw [BitVec.getLsbD_ofFnBE]
  have hi := i.isLt
  have : (⟨15 - i.val, h⟩ : Fin 16).rev = i := by
    apply Fin.ext
    simp only [Fin.val_rev]
    omega
  simp [h, this]

/-- Slot `i` of the frame stored for a lane is that lane's bit of entry `i`. -/
theorem frameBit_storedFrame {w : Nat} (timeline : Vector (BitVec w) 16) (b : Lane) (i : Slot) :
    frameBit (storedFrame timeline b) i = timeline[i].getLsbD b := frameBit_ofFnBE _ i

/-- Two 16-bit values with the same bit in every slot are equal. -/
theorem eq_of_frameBit_eq {f g : Word16} (h : ∀ i : Slot, frameBit f i = frameBit g i) : f = g := by
  apply BitVec.eq_of_getLsbD_eq
  intro k hk
  have := h ⟨15 - k, by omega⟩
  simpa [frameBit, show 15 - (15 - k) = k by omega] using this

end Sys2Proof.Machine
end

