-- ==== Sys2Proof/Laws/PerInstr.lean ====
section
/-!
SUPPORT. Statements about every operation as syntax, one lemma per constructor. The family WellFormedUnlessReserved: the reserved request
is ill-formed and nothing else is, whatever the width of a request word's operand field, once its operand fits (30_encoding.md
rules R52, R55).
-/

namespace Sys2Proof.Laws.WellFormedUnlessReserved

/-- The operation is well-formed exactly when it is not the reserved request code and its operand fits. -/
def Statement (i : Instr) : Prop := ∀ aw : Nat, i.wellFormed aw = true ↔ i ≠ .reqReserved ∧ i.fits aw = true

theorem nop : Statement .nop := by simp [Statement, Instr.wellFormed, Instr.notReserved]
theorem attach (pin : Operand) : Statement (.attach pin) := by simp [Statement, Instr.wellFormed, Instr.notReserved]
theorem setThrottle (binding : Operand) (speed : Word16) : Statement (.setThrottle binding speed) := by
  simp [Statement, Instr.wellFormed, Instr.notReserved]
theorem reqReserved : Statement .reqReserved := by simp [Statement, Instr.wellFormed, Instr.notReserved]
theorem encode (speed : Word16) : Statement (.encode speed) := by simp [Statement, Instr.wellFormed, Instr.notReserved]
theorem dirset (pin : Operand) : Statement (.dirset pin) := by simp [Statement, Instr.wellFormed, Instr.notReserved]
theorem tmrcfg : Statement .tmrcfg := by simp [Statement, Instr.wellFormed, Instr.notReserved]
theorem tlc (i : Slot) : Statement (.tlc i) := by simp [Statement, Instr.wellFormed, Instr.notReserved]
theorem amclr : Statement .amclr := by simp [Statement, Instr.wellFormed, Instr.notReserved]
theorem amor : Statement .amor := by simp [Statement, Instr.wellFormed, Instr.notReserved]
theorem latch (binding : Operand) (speed : Word16) : Statement (.latch binding speed) := by
  simp [Statement, Instr.wellFormed, Instr.notReserved]
theorem tlw (i : Slot) : Statement (.tlw i) := by simp [Statement, Instr.wellFormed, Instr.notReserved]
theorem timerFire : Statement .timerFire := by simp [Statement, Instr.wellFormed, Instr.notReserved]
theorem burstEnter : Statement .burstEnter := by simp [Statement, Instr.wellFormed, Instr.notReserved]
theorem emitH : Statement .emitH := by simp [Statement, Instr.wellFormed, Instr.notReserved]
theorem emitM : Statement .emitM := by simp [Statement, Instr.wellFormed, Instr.notReserved]
theorem emitL : Statement .emitL := by simp [Statement, Instr.wellFormed, Instr.notReserved]
theorem burstExit : Statement .burstExit := by simp [Statement, Instr.wellFormed, Instr.notReserved]
theorem fire : Statement .fire := by simp [Statement, Instr.wellFormed, Instr.notReserved]
theorem fPayload (s : BitVec 11) (t : BitVec 1) : Statement (.fPayload s t) := by simp [Statement, Instr.wellFormed, Instr.notReserved]
theorem fFrame (s : BitVec 11) (t : BitVec 1) (c : BitVec 4) : Statement (.fFrame s t c) := by
  simp [Statement, Instr.wellFormed, Instr.notReserved]
theorem fTimeline (lane : Lane) : Statement (.fTimeline lane) := by simp [Statement, Instr.wellFormed, Instr.notReserved]
theorem sym0 : Statement .sym0 := by simp [Statement, Instr.wellFormed, Instr.notReserved]
theorem sym1 : Statement .sym1 := by simp [Statement, Instr.wellFormed, Instr.notReserved]
theorem fBurst (lane : Lane) : Statement (.fBurst lane) := by simp [Statement, Instr.wellFormed, Instr.notReserved]

end Sys2Proof.Laws.WellFormedUnlessReserved
end

