-- ==== Sys2Proof/Tests/Slice0.lean ====
section
/-!
SUPPORT. Tests. Expected values stand in 95_test_vectors.md (its sections and ids are named beside each test) or are the encodings of
30_encoding.md written out. The second half shows, for every statement of Obligations.lean with hypotheses, concrete inputs that meet them.
-/

namespace Sys2Proof.Tests

open Sys2Proof Sys2Proof.Machine

/-! ### Helpers -/

/-- The pin table of the spec's vectors: pins 0, 2, 5, and pin 7 with the two-bit mask of A7; every other mask is zero, as A6 has it. -/
def pins : List (BitVec 8) := [0x01, 0, 0x04, 0, 0, 0x20, 0, 0x0C]

/-- The default platform with the pin table above, for either value of ATTACH_CLEARS_ACTIVE. -/
def board (clears : Bool) : Platform where
  portW := 8
  pinIdW := 8
  pinMask := pins
  attachClearsActive := clears
  timing := { tShort := 2, tMid := 2, tBit := 6, tEntry := 3, tExit := 3, tFrame := 200 }

/-- Reset with `PORT_0` = `DIR_0` = 0 and the platform above (section 2.5). -/
def start (clears : Bool) : State := ⟨board clears, Block.reset (w := 8) 0 0 0, []⟩

/-- A state of the default platform with ATTACH_CLEARS_ACTIVE. -/
def on (k : Block 8) : State := ⟨board true, k, []⟩

/-- The block after A1: pin 5 attached. -/
def attachedBlock : Block 8 := { Block.reset (w := 8) 0 0 0 with activeMask := 0x20, dir := 0x20, timerConfigured := true }

/-- After A1. -/
def attached : State := on attachedBlock

/-- A lane's bits of a frame as a timeline, slot 0 the most significant bit. -/
def lane5 (f : Word16) : Vector (BitVec 8) 16 := Vector.ofFn fun i => if f.getLsbD (15 - i.val) then 0x20 else 0

/-- The block after T1: the frame of speed 48 on lane 5. -/
def commandedBlock : Block 8 := { attachedBlock with timeline := lane5 0x0606 }

/-- After T1. -/
def commanded : State := on commandedBlock

/-- After T1, with a schedule. -/
def waiting (l : List Input) : State := ⟨board true, commandedBlock, l⟩

/-- The block in the middle of a burst, at a given slot and phase. -/
def burstingBlock (port active : BitVec 8) (slot : Slot) (phase : Phase) : Block 8 :=
  { commandedBlock with port := port, activeMask := active, ie := false, burstCount := 1
                        tx := { state := .emit, slot := slot, phase := phase } }

/-- In the middle of a burst. -/
def bursting (port active : BitVec 8) (slot : Slot) (phase : Phase) : State := on (burstingBlock port active slot phase)

/-- The block in the middle of an ATTACH 2 or a SET_THROTTLE 0x20, 1047. -/
def workingBlock (op : FgOp) (step : Fin 8) (idx : Fin 17) : Block 8 :=
  { commandedBlock with
    fg := { op := op, frame := 0x82E4, mask := if op = .attach then 0x04 else 0x20, idx := idx, step := step } }

/-- In the middle of an ATTACH 2 or a SET_THROTTLE 0x20, 1047. -/
def working (op : FgOp) (step : Fin 8) (idx : Fin 17) : State := on (workingBlock op step idx)

/-- What a function reads off the next state's block, of `w` lanes; none where there is no next state. -/
def afterW {α : Type} (w : Nat) (r : Result) (f : Block w → α) : Option α :=
  match r with
  | .next s => if h : s.platform.portW = w then some (f (h ▸ s.block)) else none
  | .fault _ => none
  | .refused _ => none

/-- The same on the default platform. -/
def after {α : Type} (r : Result) (f : Block 8 → α) : Option α := afterW 8 r f

/-- Where something is read off a next state, there is that next state. -/
theorem next_of_after {α : Type} {r : Result} {f : Block 8 → α} {a : α} (h : after r f = some a) : ∃ t, r = .next t := by
  cases r with
  | next t => exact ⟨t, rfl⟩
  | fault e => cases h
  | refused e => cases h

/-- The refusal an operation answers, if it answers one. -/
def refusalOf (r : Result) : Option Refusal :=
  match r with
  | .refused e => some e
  | .next _ => none
  | .fault _ => none

/-! ### WellFormed and Decode -/

/-- The two checks, each with a term it refuses: the reserved code (R52), and operands that a field of 8 bits does not hold. -/
theorem test_wellFormed_refuses :
    Instr.reqReserved.notReserved = false ∧ Instr.reqReserved.wellFormed 8 = false ∧
    (Instr.attach 256).fits 8 = false ∧ (Instr.setThrottle 256 0).wellFormed 8 = false := by decide
theorem test_wellFormed_accepts_extremes :
    (Instr.attach 255).wellFormed 8 = true ∧ (Instr.setThrottle 0 65535).wellFormed 8 = true := by decide

-- Request words as 95_test_vectors.md section 3 prints them; they have 26 bits, 32 in whole bytes.
theorem test_decode_nop : decodeTableWord 32 0x0000000 = some .nop ∧ decodeTableWord 26 0x0FFFFFF = some .nop := by decide
theorem test_decode_attach :
    decodeTableWord 32 0x1050000 = some (.attach 5) ∧ decodeTableWord 26 0x1020000 = some (.attach 2) := by decide
theorem test_decode_setThrottle :
    decodeTableWord 32 0x22003E8 = some (.setThrottle 0x20 1000) ∧ decodeTableWord 32 0x20407FF = some (.setThrottle 0x04 2047) ∧
    decodeTableWord 26 0x2010800 = some (.setThrottle 0x01 2048) := by decide
theorem test_decode_reserved : decodeTableWord 32 0x3000000 = some .reqReserved := by decide
theorem test_decode_encode : decodeTableWord 16 0b0000010000010111 = some (.encode 1047) := by decide
/-- Payload of 23: S = 00000010111, T = 1 (section 2.2). -/
theorem test_decode_payload : decodeTableWord 12 0b00000010111_1 = some (.fPayload 23 1) := by decide
/-- Frame of 1047, `0x82E4` (section 2.1): S = 10000010111, T = 0, C = 0100. -/
theorem test_decode_frame : decode (.frame 0x82E4) = .fFrame 1047 0 4 := by decide
theorem test_decode_rejects_by_name :
    decodeSized 32 0x4000000 = .error (.bitsOutsideForm 32) ∧ decodeSized 12 0x1000 = .error (.bitsOutsideForm 12) ∧
    decodeSized 16 0x10000 = .error (.bitsOutsideForm 16) ∧ decodeSized 8 0 = .error (.noFormOfLength 8) := by decide
theorem test_encode_words :
    encode 8 (.attach 5) = some (.request 8 0x1050000) ∧ encode 8 (.setThrottle 0x20 1047) = some (.request 8 0x2200417) ∧
    encode 8 .nop = some (.request 8 0) ∧ encode 8 .reqReserved = some (.request 8 0x3000000) ∧
    encode 8 (.fFrame 48 0 6) = some (.frame 0x0606) ∧ encode 8 (.fPayload 48 0) = some (.payload 0x060) := by decide
/-- The first step runs the word placed with withFetchWord. -/
theorem test_fetch :
    step (State.reset.withFetchWord 32 0x3000000) = .refused .reservedRequest ∧
    step (State.reset.withFetchWord 32 0x1050000) = exec (.attach 5) State.reset ∧
    step (State.reset.withFetchWord 16 48) = exec (.encode 48) State.reset := ⟨rfl, rfl, rfl⟩

/-! ### The encoder and the formats -/

/-- Sections 2.1 and 2.2 (V1, V2 corrected, the telemetry boundary, the top of the range). -/
theorem test_encode_in_range :
    [0, 1, 22, 23, 24, 25, 47, 48, 1000, 1046, 1047, 2047].map (fun v : Word16 => encodeSpeed v) =
      [0x0011, 0x0033, 0x02DF, 0x02FD, 0x0303, 0x0321, 0x05EB, 0x0606, 0x7D0A, 0x82C6, 0x82E4, 0xFFEE] := by decide
/-- Section 2.3. -/
theorem test_encode_out_of_range :
    [2048, 2049, 2071, 2072, 4095, 32767, 32768, 32791, 32792, 65535].map (fun v : Word16 => encodeSpeed v) =
      [0x0000, 0x0022, 0x02EC, 0x0303, 0xFFEE, 0xFFEE, 0x0011, 0x02FD, 0x0303, 0xFFEE] := by decide
/-- Section 2.4. -/
theorem test_frame_ok :
    [0x0011, 0x0606, 0x0602, 0x0000, 0xFFEE, 0x8206, 0x82C6].map (fun f : Word16 => frameOk f) =
      [true, true, false, true, true, false, true] := by decide
theorem test_exec_encode : after (exec (.encode 48) (start true)) (·.answers) = some [.frame 0x0606] := by decide
theorem test_nop : after (exec .nop commanded) (·.timeline) = some (lane5 0x0606) := by decide
theorem test_reqReserved : refusalOf (exec .reqReserved commanded) = some .reservedRequest := by decide
theorem test_fPayload : after (exec (.fPayload 23 1) (start true)) (·.answers) = some [.payload 0x002F] := by decide
/-- The source's wrong vector `0x0602` fails the check. -/
theorem test_fFrame :
    after (exec (.fFrame 48 0 2) (start true)) (·.answers) = some [.frameValue 0x0602 false] ∧
    after (exec (.fFrame 1047 0 4) (start true)) (·.answers) = some [.frameValue 0x82E4 true] := by decide
theorem test_fTimeline :
    after (exec (.fTimeline 5) commanded) (·.answers) = some [.laneFrame 5 0x0606] ∧
    after (exec (.fTimeline 4) commanded) (·.answers) = some [.laneFrame 4 0] := by decide
/-- P1: slots 5, 6, 13, 14 are SYM1, the other twelve SYM0. -/
theorem test_fBurst :
    after (exec (.fBurst 5) commanded) (·.answers) =
      some [.laneBurst 5 [.sym0, .sym0, .sym0, .sym0, .sym0, .sym1, .sym1, .sym0, .sym0, .sym0, .sym0, .sym0, .sym0, .sym1, .sym1, .sym0]] ∧
    after (exec (.fBurst 4) commanded) (·.answers) = some [.laneBurst 4 []] := by decide
/-- R50 with T_SHORT = 2, T_MID = 2, T_BIT = 6. -/
theorem test_sym0 : after (exec .sym0 (start true)) (·.answers) = some [.pulse .sym0 true false false 2 4] := by decide +kernel
theorem test_sym1 : after (exec .sym1 (start true)) (·.answers) = some [.pulse .sym1 true true false 4 2] := by decide +kernel

/-! ### ATTACH and SET_THROTTLE (sections 2.5, 2.6) -/

/-- A1, A2, A6, A7: answer, `DIR`, `activeMask`, `PORT`, `timerConfigured`. -/
theorem test_attach_first :
    after (exec (.attach 5) (start true)) (fun t => (t.answers, t.dir, t.activeMask, t.port, t.timerConfigured)) =
      some ([.binding 0x20], 0x20, 0x20, 0, true) ∧
    after (exec (.attach 5) (on (Block.reset 0xFF 0x03 0))) (fun t => (t.dir, t.port)) = some (0x23, 0xFF) ∧
    after (exec (.attach 9) (start true)) (fun t => (t.answers, t.dir, t.activeMask, t.timerConfigured)) =
      some ([.binding 0], 0, 0, true) ∧
    after (exec (.attach 7) (start true)) (fun t => (t.answers, t.dir, t.activeMask)) = some ([.binding 0x0C], 0x0C, 0x0C) := by
  decide
/-- A3, A4, A5: the timeline is wiped; the old pin stays active only without ATTACH_CLEARS_ACTIVE. -/
theorem test_attach_again :
    after (exec (.attach 5) (on { attachedBlock with timeline := lane5 0xFFEE })) (fun t => (t.activeMask, t.timeline)) =
      some (0x20, Vector.replicate 16 0) ∧
    after (exec (.attach 2) attached) (fun t => (t.activeMask, t.dir)) = some (0x04, 0x24) ∧
    after (exec (.attach 2) ⟨board false, attachedBlock, []⟩) (fun t => (t.activeMask, t.dir)) =
      some (0x24, 0x24) := by decide
/-- T1, T4, T9. -/
theorem test_setThrottle_one_lane :
    after (exec (.setThrottle 0x20 48) attached) (fun t => (t.timeline.toList, t.activeMask, t.trace)) =
      some ([0, 0, 0, 0, 0, 0x20, 0x20, 0, 0, 0, 0, 0, 0, 0x20, 0x20, 0], 0x20, []) ∧
    after (exec (.setThrottle 0x20 1000) attached) (·.timeline.toList) =
      some [0, 0x20, 0x20, 0x20, 0x20, 0x20, 0, 0x20, 0, 0, 0, 0, 0x20, 0, 0x20, 0] ∧
    after (exec (.setThrottle 0x20 48) (start true)) (fun t => (t.timeline, t.timerConfigured)) = some (lane5 0x0606, false) := by
  decide
/-- T6, T7, T10. -/
theorem test_setThrottle_beside :
    after (exec (.setThrottle 0x04 2047) (on { attachedBlock with timeline := lane5 0x7D0A })) (·.timeline.toList) =
      some [0x04, 0x24, 0x24, 0x24, 0x24, 0x24, 0x04, 0x24, 0x04, 0x04, 0x04, 0x00, 0x24, 0x04, 0x24, 0x00] ∧
    after (exec (.setThrottle 0x00 2047) (on { attachedBlock with timeline := lane5 0x7D0A })) (·.timeline) = some (lane5 0x7D0A) ∧
    after (exec (.setThrottle 0x20 2048) commanded) (·.timeline) = some (Vector.replicate 16 0) := by decide

/-! ### Micro-steps (programs P3 and P5) -/

theorem test_dirset :
    after (exec (.dirset 2) commanded) (fun t => (t.dir, t.activeMask, t.fg.mask, t.timeline)) =
      some (0x24, 0x20, 0x04, lane5 0x0606) := by decide
theorem test_tmrcfg :
    after (exec .tmrcfg (on { workingBlock .attach 1 0 with timerConfigured := false })) (fun t => (t.timerConfigured, t.fg.step)) =
      some (true, 2) := by decide
/-- Clearing entry 5 of `0x0606` leaves `0x0206`; TLC 15 is followed by AMCLR. -/
theorem test_tlc :
    after (exec (.tlc 5) (working .attach 2 5)) (fun t => (storedFrame t.timeline 5, t.fg.idx, t.fg.step)) = some (0x0206, 6, 2) ∧
    after (exec (.tlc 15) (working .attach 2 15)) (fun t => t.fg.step) = some 3 := by decide
theorem test_tlc_out_of_order : refusalOf (exec (.tlc 6) (working .attach 2 5)) = some .microStepOutOfOrder := by decide
theorem test_amclr : after (exec .amclr (working .attach 3 16)) (fun t => (t.activeMask, t.fg.step)) = some (0, 4) := by decide
theorem test_amor :
    after (exec .amor (on { workingBlock .attach 4 16 with activeMask := 0 })) (fun t => (t.activeMask, t.answers, t.fg.op)) =
      some (0x04, [.binding 0x04], .none) := by decide
theorem test_latch :
    after (exec (.latch 0x20 1047) commanded) (fun t => (t.fg.frame, t.timeline)) = some (0x82E4, lane5 0x0606) := by decide
/-- Section 2.7: from `k` = 5 to `k` = 6 the lane goes from `0x8606` to `0x8206`. -/
theorem test_tlw :
    after (exec (.tlw 5) (on { workingBlock .setThrottle 0 5 with timeline := lane5 0x8606 })) (fun t => (t.timeline, t.fg.op)) =
      some (lane5 0x8206, .setThrottle) ∧
    after (exec (.tlw 15) (on { workingBlock .setThrottle 0 15 with timeline := lane5 0x82E4 })) (fun t => (t.timeline, t.fg.op)) =
      some (lane5 0x82E4, .none) := by decide

/-! ### The timer and the burst (section 2.8) -/

theorem test_timerFire :
    after (exec .timerFire attached) (·.tmrPending) = some true ∧
    refusalOf (exec .timerFire (start true)) = some .timerNotConfigured := by decide
theorem test_burstEnter :
    after (exec .burstEnter (on { attachedBlock with tmrPending := true, now := 77 })) (fun t => (t.ie, t.tmrPending, t.tx.state, t.burstStart)) =
      some (false, false, .armed, 77) := by decide
theorem test_emitH :
    after (exec .emitH (bursting 0xC1 0x20 4 .h)) (fun t => (t.port, t.tx.slot, t.tx.phase)) = some (0xE1, 4, .m) ∧
    after (exec .emitH (on { burstingBlock 0x00 0x24 9 .x with tx := { state := .armed, slot := 9, phase := .x } }))
      (fun t => (t.port, t.tx)) = some (0x24, { state := .emit, slot := 0, phase := .m }) := by decide
/-- The third and fifth row of the first table, and the second row of the second. -/
theorem test_emitM :
    after (exec .emitM (bursting 0xE1 0x20 4 .m)) (·.port) = some 0xC1 ∧
    after (exec .emitM (on { burstingBlock 0xE1 0x20 4 .m with timeline := Vector.replicate 16 0x04 })) (·.port) = some 0xC1 ∧
    after (exec .emitM (on { burstingBlock 0x24 0x24 4 .m with timeline := Vector.replicate 16 0x04 })) (·.port) = some 0x04 := by decide
theorem test_emitL :
    after (exec .emitL (bursting 0xE1 0x20 14 .l)) (fun t => (t.port, t.tx.slot, t.tx.phase)) = some (0xC1, 15, .h) ∧
    after (exec .emitL (bursting 0x24 0x24 15 .l)) (fun t => (t.port, t.tx.slot, t.tx.phase)) = some (0x00, 15, .x) := by decide
theorem test_burstExit :
    after (exec .burstExit (bursting 0xC1 0x20 15 .x)) (fun t => (t.ie, t.tx.state, t.port)) = some (true, .idle, 0xC1) := by decide
/-- The trace of P1, values in the order printed there. -/
theorem test_fire_P1 :
    after (exec .fire commanded) (fun t => t.trace.map (·.value)) =
      some ([0x20, 0, 0, 0x20, 0, 0, 0x20, 0, 0, 0x20, 0, 0, 0x20, 0, 0, 0x20, 0x20, 0, 0x20, 0x20, 0, 0x20, 0, 0] ++
        [0x20, 0, 0, 0x20, 0, 0, 0x20, 0, 0, 0x20, 0, 0, 0x20, 0, 0, 0x20, 0x20, 0, 0x20, 0x20, 0, 0x20, 0, 0]) := by decide
/-- R87 with T_ENTRY = 3, T_BIT = 6, T_SHORT = T_MID = 2: a burst entered at 100 writes slot 0 at 103, 105, 107 and slot 15 at 193, 195, 197. -/
theorem test_fire_times :
    after (exec .fire (on { commandedBlock with now := 100 }))
      (fun t => ((t.trace.map (·.time)).take 3, (t.trace.map (·.time)).drop 45)) =
      some ([103, 105, 107], [193, 195, 197]) := by decide +kernel
/-- P4 line 3: `PORT` goes from `0xC1` to `0xC0`, lane 0 carries `0x0000`. -/
theorem test_fire_P4 :
    after (exec .fire (on { Block.reset 0xC1 0x01 0 with activeMask := 0x01, timerConfigured := true }))
      (fun t => (t.port, t.trace.length, transmittedFrame t.trace 1 0, t.ie)) = some (0xC0, 48, 0x0000, true) := by decide


/-- A port of 16 lanes (R12, R20): pin 1 of a two-bit identifier is lane 15, and the request word has 34 bits (R52). -/
def wide (k : Block 16) (l : List Input) : State :=
  ⟨{ board true with portW := 16, pinIdW := 2, pinMask := [0x0001, 0x8000] }, k, l⟩

/-- R52, R71: field `a` = 5 asks for pin 1, its low two bits. -/
theorem test_wide_attach :
    afterW 16 (step (wide (Block.reset 0 0 0) [.request 0x100050000])) (fun t => (t.answers, t.dir, t.activeMask)) =
      some ([.binding 0x8000], 0x8000, 0x8000) := by decide
/-- R77, R91: the mask `0x8001`, and a port write that raises both lanes and keeps a third. -/
theorem test_wide_lanes :
    afterW 16 (step (wide (Block.reset 0 0 0) [.request 0x280010030])) (fun t => (t.timeline[4], t.timeline[5])) =
      some (0, 0x8001) ∧
    afterW 16 (exec .emitH
        (wide { Block.reset 0x0100 0 0 with activeMask := 0x8001, tx := { state := .armed, slot := 0, phase := .h } } []))
      (·.port) = some 0x8101 := by decide

/-! ### Time (R86, R87) -/

/-- 300 ms on an idle block whose timer has 150 of its 200 ms to go: the timer fires at 150. -/
theorem test_elapse_fires :
    after (step ⟨board true, { commandedBlock with tmrCount := 50 }, [.elapse 300]⟩)
      (fun t => (t.now, t.tmrCount, t.tmrPending)) = some (150, 0, true) := by decide +kernel
/-- 1.5 ms pass in a burst from time 3, not reaching the M write at 5, and the timer fires on the way, 0.5 ms before the end
(R86, R87). -/
theorem test_elapse_fraction :
    after (step ⟨board true, { burstingBlock 0x20 0x20 0 .m with now := 3, tmrCount := 199 }, [.elapse (3 / 2)]⟩)
      (fun t => (t.now, t.tmrCount, t.tmrPending, t.tx.phase)) = some (9 / 2, 1 / 2, true, .m) := by decide +kernel
/-- A firing that can be accepted goes before the 400 ms that wait: none is lost (R138). -/
theorem test_elapse_accepts :
    after (step ⟨board true, { commandedBlock with tmrPending := true }, [.elapse 400]⟩)
      (fun t => (t.now, t.tx.state, t.tmrPending)) = some (0, .armed, false) := by decide

/-! ### Witnesses: inputs that meet the hypotheses of the statements -/

/-- Pin 5 attached and commanded meets the invariant, for either value of ATTACH_CLEARS_ACTIVE. -/
theorem inv_commanded (clears : Bool) : Block.Inv (board clears) commandedBlock where
  masked_in_burst := by show true = false ↔ TxState.idle ≠ TxState.idle; simp
  exit_after_last_slot := by intro h; cases h
  firing_needs_timer := fun _ => rfl
  attach_progress := by intro h; cases h
  attach_timer := by intro h; cases h
  attach_mask := by intro h; cases h
  attach_cleared := by intro h; cases h
  attach_inactive := by intro _ h; cases h
  throttle_progress := by intro h; cases h
  throttle_written := by intro h; cases h
  one_active := fun _ => .inr ⟨5, by cases clears <;> decide⟩
  active_output := ⟨by show (0x20 : BitVec 8) &&& ~~~0x20 = 0; decide, fun _ => rfl⟩
  trace_count := rfl
  trace_numbers := by intro e h; cases h
  phase_bound := fun _ => by show (0 : Time) ≤ 0 ∧ (0 : Time) < 200; decide +kernel
  burst_clock := fun h => absurd rfl h

/-- A burst of the commanded block entered at time 0, after the H write of slot 0 at time 3. -/
def burstBlock : Block 8 :=
  { burstingBlock 0x20 0x20 0 .m with
    now := 3, trace := [{ burst := 1, slot := 0, phase := .h, value := 0x20, time := 3 }] }

/-- It meets the invariant too, with the M write still to come at time 5. -/
theorem inv_bursting : Block.Inv (board true) burstBlock where
  masked_in_burst := by show false = false ↔ TxState.emit ≠ TxState.idle; simp
  exit_after_last_slot := by intro _ h; cases h
  firing_needs_timer := fun _ => rfl
  attach_progress := by intro h; cases h
  attach_timer := by intro h; cases h
  attach_mask := by intro h; cases h
  attach_cleared := by intro h; cases h
  attach_inactive := by intro _ h; cases h
  throttle_progress := by intro h; cases h
  throttle_written := by intro h; cases h
  one_active := fun _ => .inr ⟨5, by decide⟩
  active_output := ⟨by show (0x20 : BitVec 8) &&& ~~~0x20 = 0; decide, fun _ => rfl⟩
  trace_count := rfl
  trace_numbers := by
    intro e h
    obtain rfl := List.mem_singleton.mp (show e ∈ [_] from h)
    decide
  phase_bound := fun _ => by show (0 : Time) ≤ 0 ∧ (0 : Time) < 200; decide +kernel
  burst_clock := fun _ => by decide +kernel

theorem witness_ReservedRequestIsRefused :
    (0x3000000#26).extractLsb' (8 + 16) 2 = 3#2 ∧ (0x300000000#34).extractLsb' (16 + 16) 2 = 3#2 := by decide
/-- Both values of the switch, the timer configured and not, and a port of 16 lanes: AttachSetsTheBank, SetThrottleWritesTheFrame,
DirsetMakesThePinAnOutput, LatchTouchesNoSharedState, AttachEqualsItsMicroSteps, SetThrottleEqualsItsMicroSteps,
ReattachmentWipesEveryLane, and the first clause of NoOperandIsRefused. -/
theorem witness_HostReady :
    (start true).block.HostReady ∧ (start false).block.HostReady ∧ commandedBlock.HostReady ∧
      (wide (Block.reset 0 0 0) []).block.HostReady :=
  ⟨⟨rfl, rfl⟩, ⟨rfl, rfl⟩, ⟨rfl, rfl⟩, ⟨rfl, rfl⟩⟩
/-- The mask of SetThrottleWritesTheFrame, where the operand fits the port and where it does not. -/
theorem witness_SetThrottleWritesTheFrame :
    0x20#8 = BitVec.ofNat (board true).portW 0x20 ∧ 0x20#8 = BitVec.ofNat (board true).portW 0x120 := ⟨rfl, rfl⟩
theorem witness_TmrcfgConfiguresTheTimer :
    let k := workingBlock .attach 1 0
    k.tx.state = .idle ∧ k.fg.op = .attach ∧ k.fg.step = 1 := by decide
/-- Slots 0 and 15. -/
theorem witness_TlcClearsOneEntry :
    let k := workingBlock .attach 2 0
    let t := workingBlock .attach 2 15
    (k.tx.state = .idle ∧ k.fg.op = .attach ∧ k.fg.step = 2 ∧ k.fg.idx.val = (0 : Slot).val) ∧
    (t.tx.state = .idle ∧ t.fg.op = .attach ∧ t.fg.step = 2 ∧ t.fg.idx.val = (15 : Slot).val) := by decide
/-- Both clauses: the switch on and off. -/
theorem witness_AmclrClearsTheActiveMask :
    let k := workingBlock .attach 3 16
    (k.tx.state = .idle ∧ k.fg.op = .attach ∧ k.fg.step = 3) ∧
    (board true).attachClearsActive = true ∧ (board false).attachClearsActive = false := by decide
theorem witness_AmorMergesAndReturnsTheBinding :
    let k := workingBlock .attach 4 16
    k.tx.state = .idle ∧ k.fg.op = .attach ∧ k.fg.step = 4 := by decide
/-- Slots 0 and 15. -/
theorem witness_TlwUpdatesOneEntry :
    let k := workingBlock .setThrottle 0 0
    let t := workingBlock .setThrottle 0 15
    (k.tx.state = .idle ∧ k.fg.op = .setThrottle ∧ k.fg.idx.val = (0 : Slot).val) ∧
    (t.tx.state = .idle ∧ t.fg.op = .setThrottle ∧ t.fg.idx.val = (15 : Slot).val) := by decide
/-- The three clauses: configured, configured with a firing pending during a burst, not configured. -/
theorem witness_TimerFireOnlySetsPending :
    attachedBlock.timerConfigured = true ∧
    (let k := { burstBlock with tmrPending := true }
     k.timerConfigured = true ∧ k.tmrPending = true ∧ k.tx.state ≠ .idle) ∧
    (start true).block.timerConfigured = false := by decide
/-- BurstEnterTakesTheInterrupt, and the first clause of TimerFiresOncePerPeriod. -/
theorem witness_BurstEnterTakesTheInterrupt :
    let k := { commandedBlock with tmrPending := true }
    k.tx.state = .idle ∧ k.ie = true ∧ k.tmrPending = true := by decide
/-- Both clauses: armed, and phase H of the last slot. -/
theorem witness_EmitHRaisesEveryActiveLane :
    let k := { burstingBlock 0 0x20 0 .h with tx := { state := .armed, slot := 0, phase := .h } }
    let t := burstingBlock 0 0x20 15 .h
    k.tx.state = .armed ∧ t.tx.state = .emit ∧ t.tx.phase = .h := by decide
theorem witness_EmitMDropsTheZeroLanes : burstBlock.tx.state = .emit ∧ burstBlock.tx.phase = .m := by decide
/-- Slots 0, 14 and 15. -/
theorem witness_EmitLDropsEveryActiveLane :
    (∀ i ∈ [0, 14, 15], (burstingBlock 0x20 0x20 i .l).tx.state = .emit ∧ (burstingBlock 0x20 0x20 i .l).tx.phase = .l) ∧
    (burstingBlock 0x20 0x20 14 .l).tx.slot.val < 15 ∧ (burstingBlock 0x20 0x20 15 .l).tx.slot.val = 15 := by decide
/-- Both clauses: a firing arrived during the burst, a request waits or time is to pass. -/
theorem witness_BurstExitReturns :
    (let k := { burstingBlock 0 0x20 15 .x with tmrPending := true }
     k.tx.state = .emit ∧ k.tx.slot = 15 ∧ k.tx.phase = .x ∧ k.tmrPending = true) ∧
    (Input.request 0x1050000).waitsForHost = true ∧ ∃ n, Input.elapse 7 = .elapse n := ⟨by decide, rfl, 7, rfl⟩
/-- FireEmitsTheWholeBurst, and EmptyBurstMovesNothing with nothing active. -/
theorem witness_FireEmitsTheWholeBurst :
    commandedBlock.tx.state = .idle ∧ commandedBlock.ie = true ∧ commandedBlock.timerConfigured = true := by decide
theorem witness_EmptyBurstMovesNothing :
    let k := { commandedBlock with activeMask := 0 }
    k.tx.state = .idle ∧ k.ie = true ∧ k.timerConfigured = true ∧ k.activeMask = 0 := by decide
/-- One state for each clause, in the clauses' order; a micro-step asked for idle, in the other operation, and one step early or late; a step
of the transmitter asked for idle, armed, in each other phase, and phase X outside slot 15. -/
theorem witness_StepsThatAreNotDueAreRefused :
    (bursting 0 0x20 0 .h).block.tx.state ≠ .idle ∧
    ((workingBlock .attach 2 5).tx.state = .idle ∧ (workingBlock .attach 2 5).fg.op ≠ .none) ∧
    (commandedBlock.tx.state = .idle ∧ commandedBlock.fg.op ≠ .attach ∧ commandedBlock.fg.op ≠ .setThrottle) ∧
    ((workingBlock .setThrottle 0 5).tx.state = .idle ∧ (workingBlock .setThrottle 0 5).fg.op ≠ .attach) ∧
    ((workingBlock .attach 2 5).fg.op ≠ .setThrottle ∧ (workingBlock .setThrottle 0 5).fg.idx.val ≠ (6 : Slot).val) ∧
    ((workingBlock .attach 2 0).fg.step ≠ 1 ∧ (workingBlock .attach 1 0).fg.step ≠ 2 ∧
      (workingBlock .attach 2 5).fg.idx.val ≠ (6 : Slot).val ∧ (workingBlock .attach 2 15).fg.step ≠ 3 ∧
      (workingBlock .attach 4 16).fg.step ≠ 3 ∧ (workingBlock .attach 3 16).fg.step ≠ 4) ∧
    ((start true).block.timerConfigured = false ∧ (start true).block.tx.state = .idle) ∧
    ¬ (commandedBlock.tx.state = .idle ∧ commandedBlock.ie = true ∧ commandedBlock.tmrPending = true) ∧
    (∀ ph ∈ [Phase.m, .l, .x], ¬ ((burstingBlock 0 0x20 15 ph).tx.state = .armed ∨
      ((burstingBlock 0 0x20 15 ph).tx.state = .emit ∧ (burstingBlock 0 0x20 15 ph).tx.phase = .h))) ∧
    (∀ ph ∈ [Phase.h, .l, .x], ¬ ((burstingBlock 0 0x20 15 ph).tx.state = .emit ∧ (burstingBlock 0 0x20 15 ph).tx.phase = .m)) ∧
    (∀ ph ∈ [Phase.h, .m, .x], ¬ ((burstingBlock 0 0x20 15 ph).tx.state = .emit ∧ (burstingBlock 0 0x20 15 ph).tx.phase = .l)) ∧
    ¬ ((burstingBlock 0 0x20 14 .x).tx.state = .emit ∧ (burstingBlock 0 0x20 14 .x).tx.phase = .x ∧
      (burstingBlock 0 0x20 14 .x).tx.slot = 15) := by decide
/-- The second clause: a burst, and an operation in progress. -/
theorem witness_NoOperandIsRefused :
    ¬ (bursting 0 0x20 0 .h).block.HostReady ∧ ¬ (working .attach 2 5).block.HostReady :=
  ⟨fun h => absurd h.1 (by decide), fun h => absurd h.2 (by decide)⟩
/-- StepRunsTheDecodedRequest, and the first clause of StepwiseRequestGoesMicroStepByMicroStep. -/
theorem witness_StepRunsTheDecodedRequest : commandedBlock.hostSuspended = false ∧ commandedBlock.fg.op = .none := by decide
/-- The second clause: the three schedules, the steps of an ATTACH, and slots 0 and 15 of either operation. -/
theorem witness_StepwiseRequestGoesMicroStepByMicroStep :
    (∃ r, [Input.request 7] = .request r :: []) ∧ (∃ r, [Input.requestStepwise 7] = .requestStepwise r :: []) ∧
    (∀ n ∈ [1, 2, 3, 4], let k := workingBlock .attach n 0
      k.hostSuspended = false ∧ k.fg.op = .attach ∧ k.fg.step = n ∧ k.fg.idx.val = (0 : Slot).val) ∧
    (workingBlock .attach 2 15).fg.idx.val = (15 : Slot).val ∧
    (∀ n ∈ [0, 15], let k := workingBlock .setThrottle 0 n
      k.hostSuspended = false ∧ k.fg.op = .setThrottle ∧ k.fg.idx.val = n.val) ∧
    (0 : Fin 17).val = (0 : Slot).val ∧ (15 : Fin 17).val = (15 : Slot).val :=
  ⟨⟨7, rfl⟩, ⟨7, rfl⟩, by decide, by decide, by decide, rfl, rfl⟩
/-- One state for each clause; a request waits in each, and the clock stands before the step's time, or at it. -/
theorem witness_InterruptGoesBeforeTheHost :
    (Input.requestStepwise 0x2200030).waitsForHost = true ∧ (waiting [.elapse 7]).inputs = .elapse 7 :: [] ∧
    (let k := { commandedBlock with tmrPending := true }
     k.tx.state = .idle ∧ k.ie = true ∧ k.tmrPending = true) ∧
    (let k := { burstingBlock 0 0x20 0 .h with tx := { state := .armed, slot := 0, phase := .h } }
     k.tx.state = .armed ∧ k.tx.state ≠ .idle ∧ k.now ≤ k.stepTime (board true).timing) ∧
    (∀ ph ∈ [Phase.h, .m, .l, .x],
      let k := burstingBlock 0 0x20 15 ph
      k.tx.state = .emit ∧ k.tx.phase = ph ∧ k.now ≤ k.stepTime (board true).timing) ∧
    ({ burstBlock with now := 5 } : Block 8).stepTime (board true).timing = 5 := by decide +kernel
/-- A negative stretch of time with nothing to accept; the clauses outside a burst with the period (200) just missed, by 0.5 ms, and just
reached; those inside a burst with the time of the next step (5) just missed and just reached. -/
theorem witness_TimerFiresOncePerPeriod :
    (let k := commandedBlock
     (-1 / 2 : Time) < 0 ∧ ¬ (k.tx.state = .idle ∧ k.ie = true ∧ k.tmrPending = true)) ∧
    (let k := Block.reset (w := 8) 0 0 0
     (0 : Time) ≤ 0 ∧ k.tx.state = .idle ∧ k.tmrPending = false ∧ k.timerConfigured = false) ∧
    (let k := commandedBlock
     (0 : Time) ≤ 399 / 2 ∧ k.tx.state = .idle ∧ k.tmrPending = false ∧ k.timerConfigured = true ∧
       k.tmrCount + 399 / 2 < (board true).timing.tFrame ∧ k.tmrCount < (board true).timing.tFrame ∧
       (0 : Time) ≤ 200 ∧ (board true).timing.tFrame ≤ k.tmrCount + 200) ∧
    (let k := burstBlock
     k.tx.state ≠ .idle ∧ k.timerConfigured = true ∧ (0 : Time) ≤ 3 / 2 ∧ k.now + 3 / 2 < k.stepTime (board true).timing ∧
       k.now ≤ k.stepTime (board true).timing ∧ (0 : Time) ≤ 2 ∧ k.stepTime (board true).timing ≤ k.now + 2) := by
  decide +kernel
/-- A request from an idle block, time passing there, and an EMIT_M in a burst. -/
theorem witness_EveryStepKeepsTheInvariant :
    (∃ s t : State, s.Inv ∧ step s = .next t ∧ s.inputs = [.request 0x1050000]) ∧
    (∃ s t : State, s.Inv ∧ step s = .next t ∧ s.inputs = [.elapse 300]) ∧
    (∃ s t : State, s.Inv ∧ step s = .next t ∧ s.block.tx.state ≠ .idle) := by
  refine ⟨?_, ?_, ?_⟩
  · obtain ⟨t, h⟩ := next_of_after (show after (step (waiting [.request 0x1050000])) (·.ie) = some true by decide)
    exact ⟨waiting [.request 0x1050000], t, inv_commanded true, h, rfl⟩
  · obtain ⟨t, h⟩ := next_of_after (show after (step (waiting [.elapse 300])) (·.ie) = some true by decide +kernel)
    exact ⟨waiting [.elapse 300], t, inv_commanded true, h, rfl⟩
  · obtain ⟨t, h⟩ := next_of_after (show after (step (on burstBlock)) (·.ie) = some false by decide +kernel)
    exact ⟨on burstBlock, t, inv_bursting, h, by decide⟩
/-- Both outcomes, the second for either form of a request. -/
theorem witness_OnlyTheReservedRequestIsRefused :
    (∃ s t : State, s.Inv ∧ (∀ x ∈ s.inputs, x.isInterface = true) ∧ step s = .next t) ∧
    (∃ s : State, s.Inv ∧ (∀ x ∈ s.inputs, x.isInterface = true) ∧ step s = .refused .reservedRequest) ∧
    step (waiting [.requestStepwise 0x3000000]) = .refused .reservedRequest := by
  refine ⟨?_, ⟨waiting [.request 0x3000000], inv_commanded true, by decide, rfl⟩, rfl⟩
  obtain ⟨t, h⟩ := next_of_after (show after (step (waiting [.requestStepwise 0x2200030])) (·.ie) = some true by decide)
  exact ⟨waiting [.requestStepwise 0x2200030], t, inv_commanded true, by decide, h⟩
/-- ForeignLanesKeepTheirLevel and BurstFreezesTheBank: an EMIT_M of a burst on lane 5, seen from lane 0. -/
theorem witness_BurstFreezesTheBank :
    ∃ t : State, burstBlock.tx.state ≠ .idle ∧ step ⟨board true, burstBlock, []⟩ = .next t ∧
      burstBlock.activeMask.getLsbD 0 = false := by
  obtain ⟨t, h⟩ := next_of_after (show after (step (on burstBlock)) (·.port) = some 0 by decide +kernel)
  exact ⟨t, by decide, h, by decide⟩
/-- Both clauses of ContextsWriteTheirOwnState. -/
theorem witness_ContextsWriteTheirOwnState :
    (∃ t, exec (.attach 5) ⟨board true, commandedBlock, []⟩ = .next t) ∧ (∃ t, exec .emitM ⟨board true, burstBlock, []⟩ = .next t) ∧
    Instr.attach 5 ∉ [Instr.timerFire, .burstEnter, .emitH, .emitM, .emitL, .burstExit, .fire] :=
  ⟨next_of_after (show after (exec (.attach 5) commanded) (·.activeMask) = some 0x20 by decide),
    next_of_after (show after (exec .emitM (on burstBlock)) (·.port) = some 0 by decide), by decide⟩
theorem witness_StepsTakeNothingBack :
    ∃ t : State, step ⟨board true, commandedBlock, [.request 0x1020000]⟩ = .next t ∧ commandedBlock.timerConfigured = true ∧
      commandedBlock.dir.getLsbD 5 = true := by
  obtain ⟨t, h⟩ := next_of_after (show after (step (waiting [.request 0x1020000])) (·.dir) = some 0x24 by decide)
  exact ⟨t, h, rfl, by decide⟩
/-- Both ways a timeline bit can rise. -/
theorem witness_TimelineBitsRiseOnlyUnderTheMask :
    (workingBlock .setThrottle 0 0).timeline[0].getLsbD 5 = false ∧
    after (exec (.tlw 0) (working .setThrottle 0 0)) (fun t => t.timeline[0].getLsbD 5) = some true ∧
    commandedBlock.timeline[0].getLsbD 5 = false ∧
    after (exec (.setThrottle 0x20 2047) commanded) (fun t => t.timeline[0].getLsbD 5) = some true := by decide
/-- Both clauses. -/
theorem witness_StepwiseRequestReachesTheWholeOperation :
    commandedBlock.HostReady ∧ commandedBlock.tmrPending = false ∧ (board true).requested 0x1020000 = .attach 2 ∧
      (board true).requested 0x2200417 = .setThrottle 0x20 1047 := ⟨⟨rfl, rfl⟩, rfl, rfl, rfl⟩
/-- The premises, either value of the pending flag, and the shortest time the third clause admits. -/
theorem witness_FiftyStepsMakeTheBurstOfFire :
    (board true).timing.ok = true ∧ commandedBlock.tx.state = .idle ∧ commandedBlock.ie = true ∧
      commandedBlock.timerConfigured = true ∧ commandedBlock.tmrCount < (board true).timing.tFrame ∧
      commandedBlock.tmrPending = false ∧ ({ commandedBlock with tmrPending := true } : Block 8).tmrPending = true ∧
      (board true).timing.tFrame + (board true).timing.burstDuration ≤ commandedBlock.tmrCount + 302 ∧
      (board true).timing.burstDuration < (board true).timing.tFrame := by decide +kernel
/-- FireTransmitsTheStoredFrame and CommandedSpeedIsTransmitted, on lane 5. -/
theorem witness_CommandedSpeedIsTransmitted :
    commanded.Inv ∧ commanded.block.HostReady ∧ commandedBlock.tx.state = .idle ∧ commandedBlock.timerConfigured = true ∧
      commandedBlock.activeMask.getLsbD 5 = true ∧ (0x20).testBit 5 = true :=
  ⟨inv_commanded true, ⟨rfl, rfl⟩, rfl, rfl, by decide, by decide⟩
/-- `n` = 0 and 16, a lane of the mask and one outside, and the ends of the frame's bits: TornFrameIsNewAboveOld,
PartlyClearedTimelineDuringAttach, SetThrottleIsIdempotent. -/
theorem witness_TornFrameIsNewAboveOld :
    commandedBlock.HostReady ∧ 0 ≤ 16 ∧ 16 ≤ 16 ∧ 5 < (board true).portW ∧ (0x20).testBit 5 = true ∧ (0x20).testBit 4 = false ∧
      0 < 16 ∧ 15 < 16 ∧ (0 : Slot).val < 16 ∧ 0 ≤ (0 : Slot).val :=
  ⟨⟨rfl, rfl⟩, by decide⟩
theorem witness_PinIsolation :
    (∃ t, exec (.setThrottle 0x20 48) ⟨board true, attachedBlock, []⟩ = .next t) ∧ (∃ t, exec (.attach 2) commanded = .next t) :=
  ⟨next_of_after (show after (exec (.setThrottle 0x20 48) attached) (·.timeline) = some (lane5 0x0606) by decide),
    next_of_after (show after (exec (.attach 2) commanded) (·.activeMask) = some 0x04 by decide)⟩
/-- Both values of the switch; a lane outside pin 2's mask. -/
theorem witness_EarlierPinFallsSilent :
    commandedBlock.HostReady ∧ commandedBlock.ie = true ∧ (board true).attachClearsActive = true ∧
      ((board true).maskOf 2).getLsbD 5 = false ∧ (board false).attachClearsActive = false :=
  ⟨⟨rfl, rfl⟩, by decide⟩
/-- EntryUpdateUnderTheMask and LanesActIndependently: the lowest and the highest bit of a 16-bit port. -/
theorem witness_LanesActIndependently : 0 < 16 ∧ 15 < 16 := by decide
/-- TelemetryFlagBelowTwentyFour and EncoderClosedForm: 0, 23, 24 and 2047. -/
theorem witness_EncoderClosedForm :
    (0#16).toNat ≤ 2047 ∧ (23#16).toNat ≤ 2047 ∧ (24#16).toNat ≤ 2047 ∧ (2047#16).toNat ≤ 2047 := by decide
/-- The two clauses, at both ends of each. -/
theorem witness_OutOfRangeSpeeds :
    ((0#16).extractLsb' 11 4 = 0 ∧ (2047#16).extractLsb' 11 4 = 0 ∧ (32768#16).extractLsb' 11 4 = 0) ∧
    ((2048#16).extractLsb' 11 4 ≠ 0 ∧ (32767#16).extractLsb' 11 4 ≠ 0 ∧ (65535#16).extractLsb' 11 4 ≠ 0) := by
  decide
/-- The premise R9, and neighbouring slots at both ends. -/
theorem witness_TimingOfSymbolsAndBurst :
    (board true).timing.ok = true ∧ (0 : Slot).val + 1 = (1 : Slot).val ∧ (14 : Slot).val + 1 = (15 : Slot).val := by decide +kernel
/-- One operation of each of the four forms, and the largest operand of a wider field `a`. -/
theorem witness_DecodeOfEncode :
    (∃ c₁ c₂ c₃ c₄, encode 8 (.attach 255) = some c₁ ∧ encode 8 (.encode 0xFFFF) = some c₂ ∧ encode 8 (.fPayload 2047 1) = some c₃ ∧
      encode 8 (.fFrame 2047 1 15) = some c₄) ∧
    (∃ c, encode 16 (.setThrottle 0xFFFF 0xFFFF) = some c) ∧ (Instr.attach 255).fits 8 = true ∧ (Instr.encode 0xFFFF).fits 8 = true ∧
    (Instr.fPayload 2047 1).fits 8 = true ∧ (Instr.fFrame 2047 1 15).fits 8 = true ∧
    (Instr.setThrottle 0xFFFF 0xFFFF).fits 16 = true :=
  ⟨⟨_, _, _, _, rfl, rfl, rfl, rfl⟩, ⟨_, rfl⟩, by decide⟩

end Sys2Proof.Tests
end

section
/-!
PROOF. What the premise on the timing parameters (R9, assumption 4) gives for the symbols (R50) and for the times of a burst's port writes
(R87, R102, R104).
-/
namespace Sys2Proof.Machine

/-- R9, and that T_ENTRY and T_EXIT are not negative (assumption 4), as propositions. -/
theorem Timing.ok_iff {t : Timing} :
    t.ok = true ↔ 0 < t.tShort ∧ 0 < t.tMid ∧ t.tShort + t.tMid < t.tBit ∧ t.burstDuration ≤ t.tFrame ∧ 0 ≤ t.tEntry ∧ 0 ≤ t.tExit := by
  simp only [Timing.ok, Bool.and_eq_true, decide_eq_true_eq, and_assoc]

section
variable (t : Timing)

@[simp] theorem Timing.high_sym0 : t.high .sym0 = t.tShort := rfl
@[simp] theorem Timing.high_sym1 : t.high .sym1 = t.tShort + t.tMid := rfl

/-- The low time is positive exactly when the bit period outlasts the high time. -/
theorem Timing.low_pos_iff (y : Symbol) : 0 < t.low y ↔ t.high y < t.tBit := sub_pos

theorem Timing.eventOffset_h (i : Slot) : t.eventOffset i .h = t.tEntry + i.val * t.tBit := rfl
theorem Timing.eventOffset_h_add_tShort (i : Slot) : t.eventOffset i .h + t.tShort = t.eventOffset i .m := rfl
theorem Timing.eventOffset_m_add_tMid (i : Slot) : t.eventOffset i .m + t.tMid = t.eventOffset i .l := rfl
theorem Timing.eventOffset_x (i : Slot) : t.eventOffset i .x = t.burstDuration := rfl

/-- The L write of a slot comes T_SHORT + T_MID after its H write. -/
theorem Timing.eventOffset_l (i : Slot) : t.eventOffset i .l = t.eventOffset i .h + (t.tShort + t.tMid) := add_assoc ..

/-- One bit period after a slot's H write the next slot begins. -/
theorem Timing.eventOffset_h_add_tBit (i : Slot) : t.eventOffset i .h + t.tBit = t.tEntry + (i.val + 1) * t.tBit := by
  rw [eventOffset_h]
  ring

/-- Slots follow one another at the bit period (R102). -/
theorem Timing.eventOffset_h_succ {i j : Slot} (hij : i.val + 1 = j.val) : t.eventOffset i .h + t.tBit = t.eventOffset j .h := by
  rw [eventOffset_h_add_tBit, eventOffset_h, ← hij, Nat.cast_add_one]

end

/-- The L write of a slot comes before the slot ends, since both high times fit in the bit period (R9). -/
theorem Timing.eventOffset_l_lt_slotEnd {t : Timing} (hbit : t.tShort + t.tMid < t.tBit) (i : Slot) :
    t.eventOffset i .l < t.tEntry + (i.val + 1) * t.tBit := by
  rw [eventOffset_l, ← eventOffset_h_add_tBit]
  exact add_lt_add_right hbit _

/-- The last port write of a burst comes before its BURST_EXIT: slot 15 ends after sixteen bit periods, T_EXIT before the burst's end. -/
theorem Timing.last_write_lt_burstDuration {t : Timing} (hbit : t.tShort + t.tMid < t.tBit) (hexit : 0 ≤ t.tExit) :
    t.eventOffset 15 .l < t.burstDuration := by
  calc t.eventOffset 15 .l
      < t.tEntry + (((15 : Slot).val : Rat) + 1) * t.tBit := eventOffset_l_lt_slotEnd hbit 15
    _ = t.tEntry + 16 * t.tBit := by norm_num
    _ ≤ t.burstDuration := le_add_of_nonneg_right hexit

end Sys2Proof.Machine

namespace Sys2Proof.Proofs
open Sys2Proof Sys2Proof.Machine

/-- Settles O57: the symbols from R9 alone, a slot's writes from their offsets (R87), the burst's end from T_EXIT not being negative. -/
theorem timingOfSymbolsAndBurst : Obligations.TimingOfSymbolsAndBurst := by
  unfold Obligations.TimingOfSymbolsAndBurst
  intro t hok
  obtain ⟨hshort, hmid, hbit, hframe, -, hexit⟩ := Timing.ok_iff.mp hok
  have hhigh : t.high .sym0 < t.high .sym1 := by simpa using hmid
  have hfits : t.high .sym1 < t.tBit := by simpa using hbit
  have hlow0 : 0 < t.low .sym0 := (t.low_pos_iff _).mpr (hhigh.trans hfits)
  have hlow1 : 0 < t.low .sym1 := (t.low_pos_iff _).mpr hfits
  have hwrites (i : Slot) : t.eventOffset i .h + t.tShort = t.eventOffset i .m ∧ t.eventOffset i .m + t.tMid = t.eventOffset i .l ∧
      t.eventOffset i .l < t.tEntry + (i.val + 1) * t.tBit :=
    ⟨t.eventOffset_h_add_tShort i, t.eventOffset_m_add_tMid i, Timing.eventOffset_l_lt_slotEnd hbit i⟩
  have hend : t.eventOffset 15 .l < t.eventOffset 15 .x := Timing.last_write_lt_burstDuration hbit hexit
  exact ⟨hhigh, hshort, hlow0, hlow1, hwrites, fun i j => t.eventOffset_h_succ, hend, t.eventOffset_x 15, hframe⟩

end Sys2Proof.Proofs
end

section
/-!
PROOF. What an operation leaves unchanged, as relations between the block before and after it: the transmitter's steps keep the bank, the
foreground's keep the interrupt context (R37, R115), and none takes anything back (R13, R14, R99).
-/
namespace Sys2Proof.Machine

/-- The block's part that only the foreground writes (R115). -/
def Block.SameBank {w : Nat} (k k' : Block w) : Prop :=
  k'.timeline = k.timeline ∧ k'.activeMask = k.activeMask ∧ k'.dir = k.dir ∧ k'.timerConfigured = k.timerConfigured ∧
    k'.fg = k.fg ∧ k'.answers = k.answers

/-- The block's part that only the interrupt context and the passing of time write (R115, R87). -/
def Block.SameBurst {w : Nat} (k k' : Block w) : Prop :=
  k'.port = k.port ∧ k'.ie = k.ie ∧ k'.tmrPending = k.tmrPending ∧ k'.tx = k.tx ∧ k'.trace = k.trace ∧
    k'.burstCount = k.burstCount ∧ k'.burstStart = k.burstStart ∧ k'.tmrCount = k.tmrCount ∧ k'.now = k.now

/-- Nothing is taken back: the timer stays configured, outputs stay outputs, trace and answers only grow, the clock goes on. -/
structure Block.Extends {w : Nat} (k k' : Block w) : Prop where
  timer : k.timerConfigured = true → k'.timerConfigured = true
  outputs : ∀ b : Lane, k.dir.getLsbD b = true → k'.dir.getLsbD b = true
  trace : k.trace <+: k'.trace
  answers : k.answers <+: k'.answers
  clock : k.now ≤ k'.now

/-- The machine moves to `t` with its block changed as the relation says; its parameters are not (R20), its schedule may be. -/
def State.Moves (s : State) (R : Block s.platform.portW → Block s.platform.portW → Prop) (t : State) : Prop :=
  ∃ (k : Block s.platform.portW) (l : List Input), t = ⟨s.platform, k, l⟩ ∧ R s.block k

theorem Block.SameBank.refl {w : Nat} (k : Block w) : k.SameBank k := ⟨rfl, rfl, rfl, rfl, rfl, rfl⟩

theorem Block.SameBank.trans {w : Nat} {k₁ k₂ k₃ : Block w} (h : k₁.SameBank k₂) (h' : k₂.SameBank k₃) : k₁.SameBank k₃ := by
  obtain ⟨ht, ha, hd, hc, hf, hs⟩ := h
  obtain ⟨ht', ha', hd', hc', hf', hs'⟩ := h'
  exact ⟨ht'.trans ht, ha'.trans ha, hd'.trans hd, hc'.trans hc, hf'.trans hf, hs'.trans hs⟩

theorem Block.Extends.refl {w : Nat} (k : Block w) : k.Extends k :=
  ⟨id, fun _ => id, List.prefix_rfl, List.prefix_rfl, le_rfl⟩

theorem Block.Extends.trans {w : Nat} {k₁ k₂ k₃ : Block w} (h : k₁.Extends k₂) (h' : k₂.Extends k₃) : k₁.Extends k₃ :=
  ⟨h'.timer ∘ h.timer, fun b => h'.outputs b ∘ h.outputs b, h.trace.trans h'.trace, h.answers.trans h'.answers,
    h.clock.trans h'.clock⟩

theorem Block.Extends.passTime {w : Nat} (k : Block w) (tFrame : Time) {n : Time} (hn : 0 ≤ n) :
    k.Extends (k.passTime tFrame n) := by
  constructor <;> simp [hn]

section
variable {s t : State} {R : Block s.platform.portW → Block s.platform.portW → Prop} {k : Block s.platform.portW} {due : Bool}

theorem hostOperation_moves (h : hostOperation s k = .next t) (hk : R s.block k) : s.Moves R t :=
  ⟨k, s.inputs, (hostOperation_next.1 h).2, hk⟩

theorem microStep_moves (h : microStep s due k = .next t) (hk : R s.block k) : s.Moves R t :=
  ⟨k, s.inputs, (microStep_next.1 h).2.2, hk⟩

theorem burstStep_moves (h : burstStep s due k = .next t) (hk : R s.block k) : s.Moves R t :=
  ⟨k, s.inputs, (burstStep_next.1 h).2, hk⟩

theorem giveBack_moves {a : Answer s.platform.portW} (h : giveBack s a = .next t) (hk : R s.block (s.block.answer a)) :
    s.Moves R t :=
  ⟨_, s.inputs, (Host.Outcome.next.inj h).symm, hk⟩

theorem execTimerFire_moves (h : execTimerFire s = .next t) (hk : R s.block s.block.raiseTimer) : s.Moves R t :=
  ⟨_, s.inputs, (execTimerFire_next.1 h).2, hk⟩

theorem execBurstEnter_moves (h : execBurstEnter s = .next t) (hk : R s.block s.block.enterInterrupt) : s.Moves R t :=
  ⟨_, s.inputs, (execBurstEnter_next.1 h).2, hk⟩

end

/-- FIRE is made of steps of the timer and the transmitter (R88, R59): a reflexive and transitive relation that holds over each of these
holds over FIRE. -/
theorem execFire_of_steps {R : State → State → Prop} (refl : ∀ s, R s s) (trans : ∀ {s t u}, R s t → R t u → R s u)
    (part : ∀ {i s t}, isHostMove i = false → exec i s = .next t → R s t) {s t : State} (h : execFire s = .next t) : R s t := by
  have slot {s t : State} (h : emitSlot s = .next t) : R s t := by
    obtain ⟨u, hH, h⟩ := Result.andThen_next.1 h
    obtain ⟨v, hM, hL⟩ := Result.andThen_next.1 h
    exact trans (part (i := .emitH) rfl hH) (trans (part (i := .emitM) rfl hM) (part (i := .emitL) rfl hL))
  have slots (n : Nat) {s t : State} (h : emitSlots n s = .next t) : R s t := by
    induction n generalizing s with
    | zero =>
      obtain rfl := Host.Outcome.next.inj h
      exact refl s
    | succ n ih =>
      obtain ⟨u, hu, h⟩ := Result.andThen_next.1 h
      exact trans (slot hu) (ih h)
  unfold execFire at h
  split at h
  · cases h
  · obtain ⟨u, hfire, h⟩ := Result.andThen_next.1 h
    obtain ⟨v, henter, h⟩ := Result.andThen_next.1 h
    obtain ⟨x, hslots, hexit⟩ := Result.andThen_next.1 h
    exact trans (part (i := .timerFire) rfl hfire) (trans (part (i := .burstEnter) rfl henter)
      (trans (slots 16 hslots) (part (i := .burstExit) rfl hexit)))

/-- The same for a relation between blocks, as most frame facts are. -/
theorem execFire_moves {R : ∀ {w : Nat}, Block w → Block w → Prop} (refl : ∀ {w : Nat} (k : Block w), R k k)
    (trans : ∀ {w : Nat} {k₁ k₂ k₃ : Block w}, R k₁ k₂ → R k₂ k₃ → R k₁ k₃)
    (part : ∀ {i s t}, isHostMove i = false → exec i s = .next t → s.Moves R t) {s t : State} (h : execFire s = .next t) :
    s.Moves R t := by
  refine execFire_of_steps (R := fun s t => s.Moves R t) (fun s => ⟨s.block, s.inputs, rfl, refl _⟩) ?_ part h
  rintro s _ _ ⟨k, l, rfl, hk⟩ ⟨k', l', rfl, hk'⟩
  exact ⟨k', l', rfl, trans hk hk'⟩

/-- The steps of the timer and the transmitter, FIRE included, write nothing of the bank (R98, R115). -/
theorem exec_sameBank {i : Instr} {s t : State} (hi : isHostMove i = false ∨ i = .fire) (h : exec i s = .next t) :
    s.Moves Block.SameBank t := by
  have part {i : Instr} {s t : State} (hi : isHostMove i = false) (h : exec i s = .next t) : s.Moves Block.SameBank t := by
    cases i with
    | timerFire => exact execTimerFire_moves h (.refl _)
    | burstEnter => exact execBurstEnter_moves h (.refl _)
    | emitH | emitM | emitL | burstExit => exact burstStep_moves h (.refl _)
    | _ => cases hi
  obtain hi | rfl := hi
  · exact part hi h
  · exact execFire_moves Block.SameBank.refl Block.SameBank.trans part h

/-- The foreground's operations write nothing of the interrupt context (R37, R115). -/
theorem exec_sameBurst {i : Instr} {s t : State} (hi : isHostMove i = true) (hfire : i ≠ .fire) (h : exec i s = .next t) :
    s.Moves Block.SameBurst t := by
  cases i with
  | nop => exact ⟨s.block, s.inputs, (Host.Outcome.next.inj h).symm, by simp [Block.SameBurst]⟩
  | reqReserved => cases h
  | attach _ | setThrottle _ _ | dirset _ | latch _ _ => exact hostOperation_moves h (by simp [Block.SameBurst])
  | tmrcfg | tlc _ | amclr | amor | tlw _ => exact microStep_moves h (by simp [Block.SameBurst])
  | encode _ | fPayload _ _ | fFrame _ _ _ | fTimeline _ | sym0 | sym1 | fBurst _ =>
    exact giveBack_moves h (by simp [Block.SameBurst])
  | fire => exact absurd rfl hfire
  | _ => cases hi

/-- No operation takes anything back. -/
theorem exec_extends {i : Instr} {s t : State} (h : exec i s = .next t) : s.Moves Block.Extends t := by
  have part {i : Instr} {s t : State} (hi : i ≠ .fire) (h : exec i s = .next t) : s.Moves Block.Extends t := by
    cases i with
    | nop => exact ⟨s.block, s.inputs, (Host.Outcome.next.inj h).symm, .refl _⟩
    | reqReserved => cases h
    | attach _ | setThrottle _ _ | dirset _ | latch _ _ => exact hostOperation_moves h (by constructor <;> simp +contextual)
    | tmrcfg | tlc _ | amclr | amor | tlw _ => exact microStep_moves h (by constructor <;> simp)
    | encode _ | fPayload _ _ | fFrame _ _ _ | fTimeline _ | sym0 | sym1 | fBurst _ =>
      exact giveBack_moves h (by constructor <;> simp)
    | timerFire => exact execTimerFire_moves h (by constructor <;> simp)
    | burstEnter => exact execBurstEnter_moves h (by constructor <;> simp)
    | emitH | emitM | emitL | burstExit => exact burstStep_moves h (by constructor <;> simp)
    | fire => exact absurd rfl hi
  by_cases hi : i = .fire
  · subst hi
    refine execFire_moves Block.Extends.refl Block.Extends.trans (fun hj => part ?_) h
    rintro rfl
    cases hj
  · exact part hi h

end Sys2Proof.Machine
end

section
/-!
PROOF. A step of the machine is made of changes of the schedule, stretches of time and operations (R87, R109), so what holds over each of
these holds over a step. With it: a step takes nothing back (R13, R14, R20, R99).
-/
namespace Sys2Proof.Machine

theorem Block.untilStep_nonneg {w : Nat} (k : Block w) (t : Timing) : 0 ≤ k.untilStep t := le_max_right _ _

/-- A time a step of the machine can let pass: not negative, and in a burst not beyond its next step (R87). -/
def Block.mayPass {w : Nat} (k : Block w) (t : Timing) (n : Time) : Prop :=
  0 ≤ n ∧ (k.inBurst = true → n ≤ k.untilStep t)

section
variable {R : State → State → Prop} (refl : ∀ s, R s s) (trans : ∀ {s t u}, R s t → R t u → R s u)
  (inputs : ∀ s l, R s (s.setInputs l))
  (time : ∀ {s : State} {n : Time}, s.block.mayPass s.platform.timing n → R s (s.passTime n))
  (op : ∀ {i s t}, exec i s = .next t → R s t)

include refl time in
/-- Awaiting the next step of a burst lets time pass, or does nothing. -/
theorem awaitStep_of_parts (s : State) : R s s.awaitStep := by
  by_cases hb : s.block.inBurst = true
  · have e : s.awaitStep = s.passTime (s.block.untilStep s.platform.timing) := by
      simp [State.awaitStep, State.passTime, Block.awaitStep_burst hb]
    rw [e]
    exact time ⟨s.block.untilStep_nonneg _, fun _ => le_rfl⟩
  · have e : s.awaitStep = s := by simp [State.awaitStep, Block.awaitStep_idle (Bool.not_eq_true _ ▸ hb)]
    rw [e]
    exact refl s

include refl trans time op in
/-- The agent whose turn it is takes an operation at its time, or stands still. -/
theorem advance_of_parts {s t : State} (h : advance s = .next t) : R s t := by
  obtain ⟨i, -, h⟩ | ⟨-, rfl⟩ := advance_next h
  · exact trans (awaitStep_of_parts refl time s) (op h)
  · exact refl _

include refl trans inputs time op in
/-- A stretch of time of the schedule passes up to its end, the next step of a burst, or the next firing. -/
theorem elapseTime_of_parts {n : Time} (hn : 0 ≤ n) {rest : List Input} {s t : State} (h : elapseTime n rest s = .next t) :
    R s t := by
  obtain ⟨-, h⟩ | ⟨-, -, hlt, rfl⟩ | ⟨-, -, -, h⟩ | ⟨-, hidle, -, rfl⟩ | ⟨-, hidle, d, hd, -, rfl⟩ := elapseTime_next h
  · exact advance_of_parts refl trans time op h
  · exact trans (time ⟨hn, fun _ => hlt.le⟩) (inputs _ _)
  · exact trans (inputs _ _) (advance_of_parts refl trans time op h)
  · exact trans (time ⟨hn, by simp [hidle]⟩) (inputs _ _)
  · have hd0 : 0 ≤ d := by
      unfold Block.untilFiring at hd
      split at hd
      · cases hd
        exact le_max_right _ _
      · cases hd
    exact trans (time ⟨hd0, by simp [hidle]⟩) (inputs _ _)

include refl trans inputs time op in
/-- What holds over every change of the schedule, every time that may pass and every operation holds over every step. -/
theorem step_of_parts {s t : State} (h : step s = .next t) : R s t := by
  obtain ⟨n, rest, -, h⟩ | ⟨rest, -, h⟩ | ⟨-, h⟩ | ⟨i, rest, -, -, h⟩ | ⟨r, rest, -, -, -, h⟩ | ⟨r, rest, -, -, -, h⟩ := step_cases h
  · exact elapseTime_of_parts refl trans inputs time op (le_max_right n 0) h
  · exact trans (inputs s rest) (advance_of_parts refl trans time op h)
  · exact advance_of_parts refl trans time op h
  · exact trans (inputs s rest) (op h)
  · exact trans (inputs s rest) (op h)
  · exact trans (inputs s rest) (op h)

end

/-- No step takes anything back, changes of the schedule and the passing of time included. -/
theorem step_extends {s t : State} (h : step s = .next t) : s.Moves Block.Extends t := by
  refine step_of_parts (R := fun s t => s.Moves Block.Extends t) (fun s => ⟨s.block, s.inputs, rfl, .refl _⟩) ?_
    (fun s l => ⟨s.block, l, rfl, .refl _⟩) (fun {s n} hn => ⟨_, s.inputs, rfl, .passTime _ _ hn.1⟩) exec_extends h
  rintro s _ _ ⟨k, l, rfl, hk⟩ ⟨k', l', rfl, hk'⟩
  exact ⟨k', l', rfl, hk.trans hk'⟩

end Sys2Proof.Machine

namespace Sys2Proof.Proofs
open Sys2Proof Sys2Proof.Machine

/-- Settles O35: every part of a step extends the block, and extensions compose. -/
theorem stepsTakeNothingBack : Obligations.StepsTakeNothingBack := by
  unfold Obligations.StepsTakeNothingBack
  intro p k l t h
  obtain ⟨k', l', rfl, timer, outputs, ⟨es, htrace⟩, ⟨as, hanswers⟩, clock⟩ := step_extends h
  exact ⟨k', l', rfl, timer, outputs, ⟨es, htrace.symm⟩, ⟨as, hanswers.symm⟩, clock⟩

end Sys2Proof.Proofs
end

section
/-!
PROOF. Which bits of the timeline an operation can set: those under the mask of a SET_THROTTLE, whole or entry by entry (R22 (e), R78).
-/
namespace Sys2Proof.Machine

/-- R78 on one lane: under the mask the frame bit, elsewhere the old bit. -/
theorem entryUpdate_getLsbD {w : Nat} (entry mask : BitVec w) (bit : Bool) (b : Lane) :
    (entryUpdate entry mask bit).getLsbD b = if mask.getLsbD b then bit else entry.getLsbD b := by
  by_cases hb : b < w
  · simp only [BitVec.getLsbD_eq_getElem hb]
    cases bit <;> cases hm : mask[b] <;> simp [entryUpdate, hm]
  · simp [BitVec.getLsbD_of_ge _ _ (Nat.le_of_not_lt hb)]

/-- R77 step 3 makes the update of R78 in every entry. -/
theorem throttleTimeline_getElem {w : Nat} (timeline : Vector (BitVec w) 16) (m : BitVec w) (frame : Word16) (i : Slot) :
    (throttleTimeline timeline m frame)[i] = entryUpdate timeline[i] m (frameBit frame i) := by
  have hor : timeline[i] ||| m = (timeline[i] &&& ~~~m) ||| m := by
    ext b hb
    cases hm : m[b] <;> simp [hm]
  rw [Fin.getElem_fin] at hor ⊢
  cases hf : frameBit frame i <;> simp [throttleTimeline, entryUpdate, hf, hor]

/-- The update of R78 sets a bit only under its mask. -/
theorem mask_of_entryUpdate_rise {w : Nat} {entry mask : BitVec w} {bit : Bool} {b : Lane} (hold : entry.getLsbD b = false)
    (hnew : (entryUpdate entry mask bit).getLsbD b = true) : mask.getLsbD b = true := by
  rw [entryUpdate_getLsbD, hold] at hnew
  by_contra hm
  simp [hm] at hnew

/-- No bit of the timeline turns from 0 to 1. -/
def Block.NoBitRises {w : Nat} (k k' : Block w) : Prop :=
  ∀ (n : Slot) (b : Lane), k.timeline[n].getLsbD b = false → k'.timeline[n].getLsbD b = false

theorem Block.NoBitRises.of_timeline_eq {w : Nat} {k k' : Block w} (h : k'.timeline = k.timeline) : k.NoBitRises k' :=
  fun _ _ hb => h ▸ hb

/-- A timeline entry after a write of one entry. -/
theorem Block.tlWrite_getElem {w : Nat} (k : Block w) (i n : Slot) (v : BitVec w) :
    (k.tlWrite i v).timeline[n] = if n = i then v else k.timeline[n] := by
  split
  · subst n
    exact k.tlRead_tlWrite i v
  · exact k.tlRead_tlWrite_of_ne (Ne.symm ‹_›) v

/-- Only the whole SET_THROTTLE and TLW can set a bit of the timeline. -/
theorem exec_noBitRises {i : Instr} {s t : State} (hset : ∀ a v, i ≠ .setThrottle a v) (htlw : ∀ n, i ≠ .tlw n)
    (h : exec i s = .next t) : s.Moves Block.NoBitRises t := by
  have bank {i : Instr} (hi : isHostMove i = false ∨ i = .fire) (h : exec i s = .next t) : s.Moves Block.NoBitRises t := by
    obtain ⟨k, l, rfl, ht, -⟩ := exec_sameBank hi h
    exact ⟨k, l, rfl, .of_timeline_eq ht⟩
  cases i with
  | setThrottle a v => exact absurd rfl (hset a v)
  | tlw n => exact absurd rfl (htlw n)
  | attach _ => exact hostOperation_moves h (fun n b _ => by simp)
  | tlc i =>
    refine microStep_moves h (fun n b hb => ?_)
    rw [Block.setFg_timeline, Block.tlWrite_getElem]
    split
    · simp
    · exact hb
  | nop => exact ⟨s.block, s.inputs, (Host.Outcome.next.inj h).symm, .of_timeline_eq rfl⟩
  | reqReserved => cases h
  | dirset _ | latch _ _ => exact hostOperation_moves h (.of_timeline_eq rfl)
  | tmrcfg => exact microStep_moves h (.of_timeline_eq (by simp))
  | amclr | amor => exact microStep_moves h (.of_timeline_eq rfl)
  | encode _ | fPayload _ _ | fFrame _ _ _ | fTimeline _ | sym0 | sym1 | fBurst _ =>
    exact giveBack_moves h (.of_timeline_eq rfl)
  | timerFire | burstEnter | emitH | emitM | emitL | burstExit => exact bank (.inl rfl) h
  | fire => exact bank (.inr rfl) h

end Sys2Proof.Machine

namespace Sys2Proof.Proofs
open Sys2Proof Sys2Proof.Machine

/-- Settles O36: no other operation sets a bit, and these two make the update of R78, TLW in its own entry only. -/
theorem timelineBitsRiseOnlyUnderTheMask : Obligations.TimelineBitsRiseOnlyUnderTheMask := by
  unfold Obligations.TimelineBitsRiseOnlyUnderTheMask
  intro i s t n b h hold hnew
  cases i with
  | setThrottle a v =>
    obtain ⟨-, rfl⟩ := hostOperation_next.1 h
    have hm : (s.platform.bindingOf a).getLsbD b = true := by
      refine mask_of_entryUpdate_rise hold (bit := frameBit (encodeSpeed v) n) ?_
      rw [← throttleTimeline_getElem]
      exact hnew
    rw [Platform.bindingOf, BitVec.getLsbD_ofNat, Bool.and_eq_true, decide_eq_true_eq] at hm
    exact .inr ⟨a, v, rfl, hm⟩
  | tlw j =>
    obtain ⟨-, -, rfl⟩ := microStep_next.1 h
    rw [Block.setFg_timeline, Block.tlWrite_getElem] at hnew
    split at hnew
    · subst n
      exact .inl ⟨rfl, mask_of_entryUpdate_rise hold hnew⟩
    · exact absurd (hold.symm.trans hnew) Bool.false_ne_true
  | _ =>
    obtain ⟨k, l, rfl, hk⟩ := exec_noBitRises (by simp) (by simp) h
    exact absurd ((hk n b hold).symm.trans hnew) Bool.false_ne_true

end Sys2Proof.Proofs
end

section
/-!
PROOF. The invariant in parts (10_state.md rule R22): which lanes are active, how far an operation in progress is, and the interrupt
context. Each part names the fields it speaks of, so an operation that keeps those keeps the part.
-/
namespace Sys2Proof.Machine

/-- R22 (a), R71: the active lanes. -/
structure Block.LanesInv (p : Platform) (k : Block p.portW) : Prop where
  one_active : p.attachClearsActive = true → k.activeMask = 0 ∨ ∃ a : Operand, k.activeMask = p.maskOf a
  output : k.activeMask &&& ~~~k.dir = 0
  timer : k.activeMask ≠ 0 → k.timerConfigured = true

/-- R75: an ATTACH in progress. -/
structure Block.AttachInv (p : Platform) (k : Block p.portW) : Prop where
  progress : (k.fg.step = 1 ∧ k.fg.idx = 0) ∨ (k.fg.step = 2 ∧ k.fg.idx.val < 16) ∨
    ((k.fg.step = 3 ∨ k.fg.step = 4) ∧ k.fg.idx = 16)
  timer : k.fg.step ≠ 1 → k.timerConfigured = true
  pin : ∃ a : Operand, k.fg.mask = p.maskOf a
  output : k.fg.mask &&& ~~~k.dir = 0
  cleared : ∀ i : Slot, i.val < k.fg.idx.val → k.timeline[i] = 0
  inactive : p.attachClearsActive = true → k.fg.step = 4 → k.activeMask = 0

/-- R79: a SET_THROTTLE in progress. -/
structure Block.ThrottleInv {w : Nat} (k : Block w) : Prop where
  progress : k.fg.idx.val < 16
  written : ∀ i : Slot, i.val < k.fg.idx.val → ∀ b : Lane,
    k.fg.mask.getLsbD b = true → k.timeline[i].getLsbD b = k.fg.frame.getLsbD (15 - i.val)

/-- The part of the invariant that speaks of the bank and the operation in progress. -/
structure Block.BankInv (p : Platform) (k : Block p.portW) : Prop where
  lanes : k.LanesInv p
  attach : k.fg.op = .attach → k.AttachInv p
  throttle : k.fg.op = .setThrottle → k.ThrottleInv

/-- The part of the invariant that speaks of the timer and the transmitter (R22 (b), R86, R87, R89, R94, R99). -/
structure Block.BurstInv (p : Platform) (k : Block p.portW) : Prop where
  masked : k.ie = false ↔ k.tx.state ≠ .idle
  exit : k.tx.state = .emit → k.tx.phase = .x → k.tx.slot = 15
  firing : k.tmrPending = true ∨ k.tx.state ≠ .idle → k.timerConfigured = true
  count : k.trace.length + 48 = 48 * k.burstCount + k.tx.writesDone
  numbers : ∀ e ∈ k.trace, 1 ≤ e.burst ∧ e.burst ≤ k.burstCount ∧ e.phase ≠ .x
  phase : 0 < p.timing.tFrame → 0 ≤ k.tmrCount ∧ k.tmrCount < p.timing.tFrame
  clock : k.tx.state ≠ .idle → k.burstStart ≤ k.now ∧ (p.timing.ok = true → k.now ≤ k.stepTime p.timing)

/-- The invariant is its two parts. -/
theorem Block.inv_iff {p : Platform} {k : Block p.portW} : k.Inv p ↔ k.BankInv p ∧ k.BurstInv p := by
  constructor
  · intro h
    refine ⟨⟨⟨h.one_active, h.active_output.1, h.active_output.2⟩, fun hop => ?_, fun hop => ?_⟩,
      ⟨h.masked_in_burst, h.exit_after_last_slot, h.firing_needs_timer, h.trace_count, h.trace_numbers, h.phase_bound,
        h.burst_clock⟩⟩
    · exact ⟨h.attach_progress hop, h.attach_timer hop, (h.attach_mask hop).1, (h.attach_mask hop).2, h.attach_cleared hop,
        fun hc => h.attach_inactive hc hop⟩
    · exact ⟨h.throttle_progress hop, h.throttle_written hop⟩
  · rintro ⟨hbank, hburst⟩
    exact {
      masked_in_burst := hburst.masked
      exit_after_last_slot := hburst.exit
      firing_needs_timer := hburst.firing
      attach_progress := fun hop => (hbank.attach hop).progress
      attach_timer := fun hop => (hbank.attach hop).timer
      attach_mask := fun hop => ⟨(hbank.attach hop).pin, (hbank.attach hop).output⟩
      attach_cleared := fun hop => (hbank.attach hop).cleared
      attach_inactive := fun hc hop => (hbank.attach hop).inactive hc
      throttle_progress := fun hop => (hbank.throttle hop).progress
      throttle_written := fun hop => (hbank.throttle hop).written
      one_active := hbank.lanes.one_active
      active_output := ⟨hbank.lanes.output, hbank.lanes.timer⟩
      trace_count := hburst.count
      trace_numbers := hburst.numbers
      phase_bound := hburst.phase
      burst_clock := hburst.clock }

/-- What leaves the bank alone keeps its part of the invariant. -/
theorem Block.BankInv.congr {p : Platform} {k k' : Block p.portW} (h : k.BankInv p) (ht : k'.timeline = k.timeline)
    (ha : k'.activeMask = k.activeMask) (hd : k'.dir = k.dir) (hc : k'.timerConfigured = k.timerConfigured) (hf : k'.fg = k.fg) :
    k'.BankInv p := by
  refine ⟨⟨?_, ?_, ?_⟩, fun hop => ?_, fun hop => ?_⟩
  · rw [ha]
    exact h.lanes.one_active
  · rw [ha, hd]
    exact h.lanes.output
  · rw [ha, hc]
    exact h.lanes.timer
  · obtain ⟨progress, timer, pin, output, cleared, inactive⟩ := h.attach (hf ▸ hop)
    constructor <;> simp only [ht, ha, hd, hc, hf] <;> assumption
  · obtain ⟨progress, written⟩ := h.throttle (hf ▸ hop)
    constructor <;> simp only [ht, hf] <;> assumption

/-- What leaves the interrupt context alone, and unconfigures no timer, keeps its part of the invariant. -/
theorem Block.BurstInv.of_sameBurst {p : Platform} {k k' : Block p.portW} (h : k.BurstInv p) (hs : k.SameBurst k')
    (htimer : k.timerConfigured = true → k'.timerConfigured = true) : k'.BurstInv p := by
  obtain ⟨-, hie, hpend, htx, htrace, hcount, hstart, hphase, hnow⟩ := hs
  obtain ⟨masked, exit, firing, count, numbers, phase, clock⟩ := h
  have hstep : k'.stepTime p.timing = k.stepTime p.timing := by simp only [Block.stepTime, htx, hstart]
  constructor <;> simp only [hie, hpend, htx, htrace, hcount, hstart, hphase, hnow, hstep]
  case firing => exact htimer ∘ firing
  all_goals assumption

end Sys2Proof.Machine
end

section
/-!
PROOF. The foreground's operations keep the bank's part of the invariant: what each does to the active lanes (R71, R72, R75), and the
progress of an ATTACH (R75) and of a SET_THROTTLE (R79) micro-step by micro-step.
-/
namespace Sys2Proof.Machine

/-- A mask lies within another, bit by bit. -/
theorem and_not_eq_zero_iff {w : Nat} {a d : BitVec w} : a &&& ~~~d = 0 ↔ ∀ b : Lane, a.getLsbD b = true → d.getLsbD b = true := by
  constructor
  · intro h b ha
    have hb : b < w := BitVec.lt_of_getLsbD ha
    have := congrArg (·.getLsbD b) h
    simpa [ha, hb] using this
  · intro h
    apply BitVec.eq_of_getLsbD_eq
    intro b hb
    cases ha : a.getLsbD b
    · simp [ha]
    · simp [h b ha, hb]

section
variable {p : Platform} {k k' : Block p.portW}

/-- The active lanes stay as they are, and nothing is taken back. -/
theorem Block.LanesInv.of_extends (h : k.LanesInv p) (hactive : k'.activeMask = k.activeMask) (he : k.Extends k') :
    k'.LanesInv p where
  one_active := hactive ▸ h.one_active
  output := and_not_eq_zero_iff.2 fun b hb => he.outputs b (and_not_eq_zero_iff.1 h.output b (hactive ▸ hb))
  timer hne := he.timer (h.timer (hactive ▸ hne))

/-- The clear of ATTACH, whichever way ATTACH_CLEARS_ACTIVE is (R72). -/
theorem Block.LanesInv.setActive_cleared {s : State} (h : s.block.LanesInv s.platform) :
    (s.block.setActive s.clearedActive).LanesInv s.platform := by
  unfold State.clearedActive
  split
  · exact ⟨fun _ => .inl rfl, by simp, fun hne => absurd rfl hne⟩
  · exact h

/-- The merge of ATTACH: a pin's mask that is all outputs becomes active, with nothing else active under ATTACH_CLEARS_ACTIVE. -/
theorem Block.LanesInv.merge {m : BitVec p.portW} (h : k.LanesInv p) (he : k.Extends k') (hmerge : k'.activeMask = k.activeMask ||| m)
    (hclear : p.attachClearsActive = true → k.activeMask = 0) (hpin : ∃ a, m = p.maskOf a) (hout : m &&& ~~~k'.dir = 0)
    (htimer : k'.timerConfigured = true) : k'.LanesInv p where
  one_active hc := .inr (by simpa [hmerge, hclear hc] using hpin)
  output := by
    refine and_not_eq_zero_iff.2 fun b hb => ?_
    rw [hmerge, BitVec.getLsbD_or, Bool.or_eq_true] at hb
    exact hb.elim (fun hold => he.outputs b (and_not_eq_zero_iff.1 h.output b hold)) (and_not_eq_zero_iff.1 hout b)
  timer _ := htimer

/-- With no operation in progress the bank's invariant is that of the active lanes. -/
theorem Block.BankInv.of_no_operation (hop : k.fg.op = .none) (h : k.LanesInv p) : k.BankInv p :=
  ⟨h, by simp [hop], by simp [hop]⟩

theorem Block.BankInv.of_attach (hop : k.fg.op = .attach) (h : k.LanesInv p) (ha : k.AttachInv p) : k.BankInv p :=
  ⟨h, fun _ => ha, by simp [hop]⟩

theorem Block.BankInv.of_throttle (hop : k.fg.op = .setThrottle) (h : k.LanesInv p) (ht : k.ThrottleInv) : k.BankInv p :=
  ⟨h, by simp [hop], fun _ => ht⟩

theorem Block.attachAt_iff {w : Nat} {k : Block w} {n : Fin 8} : k.attachAt n = true ↔ k.fg.op = .attach ∧ k.fg.step = n := by
  simp [Block.attachAt]

end

/-- The slots before the last. -/
theorem Slot.lt_of_ne_last {i : Slot} (hi : i ≠ 15) : i.val < 15 :=
  Nat.lt_of_le_of_ne (Nat.le_of_lt_succ i.isLt) fun e => hi (Fin.ext e)

/-- The entries done before entry `i` was, once it is. -/
theorem Slot.lt_of_lt_succ {i j : Slot} (hj : j.val < i.succ.val) (hne : j ≠ i) : j.val < i.val :=
  Nat.lt_of_le_of_ne (Nat.le_of_lt_succ hj) fun e => hne (Fin.ext e)

/-- The lanes of a mask that have just become outputs. -/
theorem and_not_or_self {w : Nat} (m d : BitVec w) : m &&& ~~~(d ||| m) = 0 :=
  and_not_eq_zero_iff.2 fun b hb => by simp [hb]

section
variable {s t : State} (h : s.block.BankInv s.platform)
include h

theorem execAttach_bank {pin : Operand} (he : execAttach pin s = .next t) : t.block.BankInv t.platform := by
  obtain ⟨-, rfl⟩ := hostOperation_next.1 he
  refine .of_no_operation rfl (h.lanes.setActive_cleared.merge ?_ rfl ?_ ⟨pin, rfl⟩ ?_ ?_)
  · constructor <;> simp +contextual
  · intro hc
    simp [State.clearedActive, hc]
  · simpa using and_not_or_self _ _
  · simp

theorem execDirset_bank {pin : Operand} (he : execDirset pin s = .next t) : t.block.BankInv t.platform := by
  obtain ⟨-, rfl⟩ := hostOperation_next.1 he
  refine .of_attach rfl (h.lanes.of_extends rfl (by constructor <;> simp +contextual)) ?_
  exact {
    progress := .inl ⟨rfl, rfl⟩
    timer := fun hne => absurd rfl hne
    pin := ⟨pin, rfl⟩
    output := and_not_or_self _ _
    cleared := fun i hi => absurd hi (Nat.not_lt_zero _)
    inactive := fun _ h4 => absurd h4 (show (1 : Fin 8) ≠ 4 by decide) }

theorem execTmrcfg_bank (he : execTmrcfg s = .next t) : t.block.BankInv t.platform := by
  obtain ⟨-, hdue, rfl⟩ := microStep_next.1 he
  obtain ⟨hop, hstep⟩ := Block.attachAt_iff.1 hdue
  have ha := h.attach hop
  have hidx : s.block.fg.idx = 0 := by simpa [hstep] using ha.progress
  refine .of_attach hop (h.lanes.of_extends (by simp) (by constructor <;> simp)) ?_
  exact {
    progress := .inr (.inl ⟨rfl, by simp [hidx]⟩)
    timer := fun _ => by simp
    pin := ha.pin
    output := by simpa using ha.output
    cleared := fun i hi => by simpa using ha.cleared i hi
    inactive := fun _ h4 => absurd h4 (show (2 : Fin 8) ≠ 4 by decide) }

theorem execTlc_bank {i : Slot} (he : execTlc i s = .next t) : t.block.BankInv t.platform := by
  obtain ⟨-, hdue, rfl⟩ := microStep_next.1 he
  obtain ⟨hat, hidx⟩ := (Bool.and_eq_true _ _).mp hdue
  obtain ⟨hop, hstep⟩ := Block.attachAt_iff.1 hat
  replace hidx : s.block.fg.idx.val = i.val := congrArg Fin.val (of_decide_eq_true hidx)
  have ha := h.attach hop
  refine .of_attach hop (h.lanes.of_extends rfl (by constructor <;> simp)) ?_
  exact {
    progress := by
      by_cases hi : i = 15
      · exact .inr (.inr ⟨.inl (if_pos hi), by simp [hi]⟩)
      · exact .inr (.inl ⟨if_neg hi, Nat.succ_lt_succ (Slot.lt_of_ne_last hi)⟩)
    timer := fun _ => ha.timer (by simp [hstep])
    pin := ha.pin
    output := ha.output
    cleared := fun j hj => by
      rw [Block.setFg_timeline, Block.tlWrite_getElem]
      split
      · rfl
      · exact ha.cleared j (hidx ▸ Slot.lt_of_lt_succ hj ‹_›)
    inactive := fun _ h4 => by
      simp only [Block.setFg_fg] at h4
      split at h4 <;> cases h4 }

theorem execAmclr_bank (he : execAmclr s = .next t) : t.block.BankInv t.platform := by
  obtain ⟨-, hdue, rfl⟩ := microStep_next.1 he
  obtain ⟨hop, hstep⟩ := Block.attachAt_iff.1 hdue
  have ha := h.attach hop
  have hidx : s.block.fg.idx = 16 := by simpa [hstep] using ha.progress
  refine .of_attach hop (h.lanes.setActive_cleared.of_extends rfl (by constructor <;> simp)) ?_
  exact {
    progress := .inr (.inr ⟨.inr rfl, hidx⟩)
    timer := fun _ => ha.timer (by simp [hstep])
    pin := ha.pin
    output := ha.output
    cleared := ha.cleared
    inactive := fun hc _ => if_pos hc }

theorem execAmor_bank (he : execAmor s = .next t) : t.block.BankInv t.platform := by
  obtain ⟨-, hdue, rfl⟩ := microStep_next.1 he
  obtain ⟨hop, hstep⟩ := Block.attachAt_iff.1 hdue
  have ha := h.attach hop
  refine .of_no_operation rfl (h.lanes.merge ?_ rfl (fun hc => ha.inactive hc hstep) ha.pin ha.output ?_)
  · constructor <;> simp
  · exact ha.timer (by simp [hstep])

theorem execSetThrottle_bank {binding : Operand} {speed : Word16} (he : execSetThrottle binding speed s = .next t) :
    t.block.BankInv t.platform := by
  obtain ⟨-, rfl⟩ := hostOperation_next.1 he
  exact .of_no_operation rfl (h.lanes.of_extends rfl (by constructor <;> simp))

theorem execLatch_bank {binding : Operand} {speed : Word16} (he : execLatch binding speed s = .next t) :
    t.block.BankInv t.platform := by
  obtain ⟨-, rfl⟩ := hostOperation_next.1 he
  exact .of_throttle rfl (h.lanes.of_extends rfl (by constructor <;> simp)) ⟨Nat.zero_lt_succ _, fun i hi => absurd hi (Nat.not_lt_zero _)⟩

theorem execTlw_bank {i : Slot} (he : execTlw i s = .next t) : t.block.BankInv t.platform := by
  obtain ⟨-, hdue, rfl⟩ := microStep_next.1 he
  obtain ⟨hop, hidx⟩ := (Bool.and_eq_true _ _).mp hdue
  replace hop := of_decide_eq_true hop
  replace hidx : s.block.fg.idx.val = i.val := congrArg Fin.val (of_decide_eq_true hidx)
  have ht := h.throttle hop
  by_cases hi : i = 15
  · exact .of_no_operation (by simp [hi]) (h.lanes.of_extends rfl (by constructor <;> simp))
  · refine .of_throttle (by simp [hi]) (h.lanes.of_extends rfl (by constructor <;> simp))
      ⟨Nat.succ_lt_succ (Slot.lt_of_ne_last hi), fun j hj b hb => ?_⟩
    rw [Block.setFg_timeline, Block.tlWrite_getElem]
    split
    · subst j
      exact (entryUpdate_getLsbD _ _ _ b).trans (if_pos hb)
    · exact ht.written j (hidx ▸ Slot.lt_of_lt_succ hj ‹_›) b hb

end

/-- Every operation keeps the bank's part of the invariant: the foreground's one by one, the others by leaving the bank alone. -/
theorem exec_bank {i : Instr} {s t : State} (h : s.block.BankInv s.platform) (he : exec i s = .next t) :
    t.block.BankInv t.platform := by
  have other (hm : s.Moves Block.SameBank t) : t.block.BankInv t.platform := by
    obtain ⟨k, l, rfl, ht, ha, hd, hc, hf, -⟩ := hm
    exact h.congr ht ha hd hc hf
  have give {a : Answer s.platform.portW} (he : giveBack s a = .next t) : t.block.BankInv t.platform := by
    obtain rfl := Host.Outcome.next.inj he
    exact h.congr rfl rfl rfl rfl rfl
  cases i with
  | nop => exact Host.Outcome.next.inj he ▸ h
  | reqReserved => cases he
  | attach _ => exact execAttach_bank h he
  | setThrottle _ _ => exact execSetThrottle_bank h he
  | dirset _ => exact execDirset_bank h he
  | tmrcfg => exact execTmrcfg_bank h he
  | tlc _ => exact execTlc_bank h he
  | amclr => exact execAmclr_bank h he
  | amor => exact execAmor_bank h he
  | latch _ _ => exact execLatch_bank h he
  | tlw _ => exact execTlw_bank h he
  | encode _ | fPayload _ _ | fFrame _ _ _ | fTimeline _ | sym0 | sym1 | fBurst _ => exact give he
  | timerFire | burstEnter | emitH | emitM | emitL | burstExit => exact other (exec_sameBank (.inl rfl) he)
  | fire => exact other (exec_sameBank (.inr rfl) he)

end Sys2Proof.Machine
end

section
/-!
PROOF. The steps of the timer and the transmitter, and the passing of time, keep the interrupt context's part of the invariant; with the
bank's part, every operation and every step keeps the invariant (R22).
-/
namespace Sys2Proof.Machine

/-- A burst has 48 port writes (R94). -/
theorem Tx.writesDone_le (t : Tx) : t.writesDone ≤ 48 := by
  have := t.slot.isLt
  unfold Tx.writesDone
  split
  · exact le_rfl
  · omega
  · split <;> omega

theorem Tx.emitting_iff {t : Tx} {ph : Phase} : t.emitting ph = true ↔ t.state = .emit ∧ t.phase = ph := by
  simp [Tx.emitting]

section
variable {w : Nat} {k : Block w} {t : Timing}

theorem Block.stepTime_armed (h : k.tx.state = .armed) : k.stepTime t = k.burstStart + t.eventOffset 0 .h := by
  simp [Block.stepTime, h]

theorem Block.stepTime_emit (h : k.tx.state = .emit) :
    k.stepTime t = k.burstStart + t.eventOffset k.tx.slot k.tx.phase := by
  simp [Block.stepTime, h]

end

section
variable {t : Timing} (hok : t.ok = true) (i : Slot)
include hok

theorem Timing.eventOffset_h_le_m : t.eventOffset i .h ≤ t.eventOffset i .m := by
  obtain ⟨hshort, -⟩ := Timing.ok_iff.1 hok
  exact t.eventOffset_h_add_tShort i ▸ le_add_of_nonneg_right hshort.le

theorem Timing.eventOffset_m_le_l : t.eventOffset i .m ≤ t.eventOffset i .l := by
  obtain ⟨-, hmid, -⟩ := Timing.ok_iff.1 hok
  exact t.eventOffset_m_add_tMid i ▸ le_add_of_nonneg_right hmid.le

theorem Timing.eventOffset_l_le_next_h {i j : Slot} (hij : i.val + 1 = j.val) : t.eventOffset i .l ≤ t.eventOffset j .h := by
  obtain ⟨-, -, hbit, -⟩ := Timing.ok_iff.1 hok
  rw [← t.eventOffset_h_succ hij, t.eventOffset_h_add_tBit]
  exact (Timing.eventOffset_l_lt_slotEnd hbit i).le

theorem Timing.eventOffset_last_l_le_x : t.eventOffset 15 .l ≤ t.eventOffset 15 .x := by
  obtain ⟨-, -, hbit, -, -, hexit⟩ := Timing.ok_iff.1 hok
  exact (Timing.last_write_lt_burstDuration hbit hexit).le

end

section
variable {p : Platform} {k : Block p.portW} (h : k.BurstInv p)
include h

/-- A port write and the sequencer's move to the next one: one more write of the present burst is done, and the next is not earlier. -/
theorem Block.BurstInv.portWrite {i : Slot} {ph : Phase} {v : BitVec p.portW} {tx : Tx} (hburst : k.tx.state ≠ .idle) (hph : ph ≠ .x)
    (hemit : tx.state = .emit) (hexit : tx.phase = .x → tx.slot = 15) (hdone : tx.writesDone = k.tx.writesDone + 1)
    (hlater : p.timing.ok = true → k.stepTime p.timing ≤ k.burstStart + p.timing.eventOffset tx.slot tx.phase) :
    ((k.portWrite p.timing i ph v).setTx tx).BurstInv p where
  masked := by simpa [hemit] using h.masked.2 hburst
  exit _ := hexit
  firing _ := h.firing (.inr hburst)
  count := by
    simp only [Block.setTx_trace, Block.portWrite_trace, List.length_append, List.length_singleton, Block.setTx_burstCount,
      Block.portWrite_burstCount, Block.setTx_tx, hdone]
    have := h.count
    omega
  numbers e he := by
    have hcount : 1 ≤ k.burstCount := by
      have hc := h.count
      have hle := tx.writesDone_le
      omega
    obtain he | he := List.mem_append.1 he
    · exact h.numbers e he
    · obtain rfl := List.mem_singleton.1 he
      exact ⟨hcount, le_rfl, hph⟩
  phase := h.phase
  clock _ := by
    refine ⟨(h.clock hburst).1, fun hok => ?_⟩
    rw [Block.stepTime_emit hemit]
    exact ((h.clock hburst).2 hok).trans (hlater hok)

theorem Block.BurstInv.raiseTimer (htimer : k.timerConfigured = true) : k.raiseTimer.BurstInv p :=
  ⟨h.masked, h.exit, fun _ => htimer, h.count, h.numbers, h.phase, h.clock⟩

/-- A burst begins where the latest one is over, with none of its writes done and its first step still to come. -/
theorem Block.BurstInv.enterInterrupt (hacc : k.interruptAcceptable = true) : k.enterInterrupt.BurstInv p := by
  simp only [Block.interruptAcceptable, Bool.and_eq_true, decide_eq_true_eq] at hacc
  obtain ⟨⟨hpend, -⟩, hidle⟩ := hacc
  exact {
    masked := by simp
    exit := nofun
    firing := fun _ => h.firing (.inl hpend)
    count := by
      have hc := h.count
      simp only [Tx.writesDone, hidle] at hc
      simp only [Block.enterInterrupt_trace, Block.enterInterrupt_burstCount, Block.enterInterrupt_tx, Tx.writesDone]
      omega
    numbers := fun e he => by
      obtain ⟨hpos, hle, hph⟩ := h.numbers e he
      exact ⟨hpos, hle.trans (Nat.le_succ _), hph⟩
    phase := h.phase
    clock := fun _ => by
      refine ⟨le_rfl, fun hok => ?_⟩
      obtain ⟨-, -, -, -, hentry, -⟩ := Timing.ok_iff.1 hok
      rw [Block.stepTime_armed rfl, Timing.eventOffset_h]
      simpa using hentry }

/-- A burst is left with its 48 writes done. -/
theorem Block.BurstInv.leaveInterrupt (hexit : k.tx.emitting .x = true) : k.leaveInterrupt.BurstInv p := by
  obtain ⟨hemit, hx⟩ := Tx.emitting_iff.1 hexit
  exact {
    masked := by simp
    exit := nofun
    firing := fun _ => h.firing (.inr (by simp [hemit]))
    count := by simpa [Tx.writesDone, hemit, hx] using h.count
    numbers := h.numbers
    phase := h.phase
    clock := fun hne => absurd rfl hne }

/-- Time that may pass keeps the timer's phase in its period and does not reach beyond a burst's next step. -/
theorem Block.BurstInv.passTime {n : Time} (hn : k.mayPass p.timing n) : (k.passTime p.timing.tFrame n).BurstInv p where
  masked := by simpa using h.masked
  exit := by simpa using h.exit
  firing hf := by
    simp only [Block.passTime_tmrPending, Block.passTime_tx, Bool.or_eq_true, Bool.and_eq_true] at hf
    rw [Block.passTime_timerConfigured]
    obtain (hpend | ⟨htimer, -⟩) | hburst := hf
    · exact h.firing (.inl hpend)
    · exact htimer
    · exact h.firing (.inr hburst)
  count := by simpa using h.count
  numbers := by simpa using h.numbers
  phase hpos := by
    obtain ⟨hlow, hhigh⟩ := h.phase hpos
    rw [Block.passTime_tmrCount]
    split
    · split
      · exact phaseOf_bound hpos _
      · exact ⟨add_nonneg hlow hn.1, lt_of_not_ge ‹_›⟩
    · exact ⟨hlow, hhigh⟩
  clock hburst := by
    simp only [Block.passTime_tx] at hburst
    obtain ⟨hstart, hstep⟩ := h.clock hburst
    simp only [Block.stepTime, Block.passTime_tx, Block.passTime_burstStart, Block.passTime_now]
    refine ⟨hstart.trans (le_add_of_nonneg_right hn.1), fun hok => ?_⟩
    have hwait : n ≤ k.stepTime p.timing - k.now := by
      have := hn.2 (by simpa [Block.inBurst] using hburst)
      rwa [Block.untilStep, max_eq_left (sub_nonneg.2 (hstep hok))] at this
    exact le_sub_iff_add_le'.1 hwait

end

section
variable {s t : State} (h : s.block.BurstInv s.platform)
include h

theorem execEmitH_burst (he : execEmitH s = .next t) : t.block.BurstInv t.platform := by
  obtain ⟨hdue, rfl⟩ := burstStep_next.1 he
  rw [Bool.or_eq_true, decide_eq_true_eq, Tx.emitting_iff] at hdue
  obtain harmed | ⟨hemit, hph⟩ := hdue
  · refine h.portWrite (by simp [harmed]) nofun rfl nofun (by simp [Tx.writesDone, Tx.emitSlot, harmed]) fun hok => ?_
    rw [Block.stepTime_armed harmed, Tx.emitSlot, if_pos harmed]
    exact add_le_add_right (Timing.eventOffset_h_le_m hok 0) _
  · refine h.portWrite (by simp [hemit]) nofun rfl nofun (by simp [Tx.writesDone, Tx.emitSlot, hemit, hph]) fun hok => ?_
    rw [Block.stepTime_emit hemit, hph, Tx.emitSlot, if_neg (by simp [hemit])]
    exact add_le_add_right (Timing.eventOffset_h_le_m hok _) _

theorem execEmitM_burst (he : execEmitM s = .next t) : t.block.BurstInv t.platform := by
  obtain ⟨hdue, rfl⟩ := burstStep_next.1 he
  obtain ⟨hemit, hph⟩ := Tx.emitting_iff.1 hdue
  refine h.portWrite (by simp [hemit]) nofun hemit nofun (by simp [Tx.writesDone, hemit, hph]) fun hok => ?_
  rw [Block.stepTime_emit hemit, hph]
  exact add_le_add_right (Timing.eventOffset_m_le_l hok _) _

theorem execEmitL_burst (he : execEmitL s = .next t) : t.block.BurstInv t.platform := by
  obtain ⟨hdue, rfl⟩ := burstStep_next.1 he
  obtain ⟨hemit, hph⟩ := Tx.emitting_iff.1 hdue
  by_cases hslot : s.block.tx.slot < 15
  · have hnext : s.block.tx.slot.val + 1 = (s.block.tx.slot + 1).val := by
      rw [Fin.val_add_one_of_lt hslot]
    simp only [if_pos hslot]
    refine h.portWrite (by simp [hemit]) nofun hemit nofun ?_ fun hok => ?_
    · simp only [Tx.writesDone, hemit, hph]
      omega
    · rw [Block.stepTime_emit hemit, hph]
      exact add_le_add_right (Timing.eventOffset_l_le_next_h hok hnext) _
  · have hlast : s.block.tx.slot = 15 := le_antisymm (Fin.le_last _) (not_lt.1 hslot)
    simp only [if_neg hslot]
    refine h.portWrite (by simp [hemit]) nofun hemit (fun _ => hlast) ?_ fun hok => ?_
    · simp [Tx.writesDone, hemit, hph, hlast]
    · rw [Block.stepTime_emit hemit, hph, hlast]
      exact add_le_add_right (Timing.eventOffset_last_l_le_x hok) _

end

/-- Every operation keeps the invariant: FIRE by its parts, the foreground's by leaving the interrupt context alone, the others one by one. -/
theorem exec_inv {i : Instr} {s t : State} (h : s.Inv) (he : exec i s = .next t) : t.Inv := by
  have part {i : Instr} {s t : State} (hi : isHostMove i = false) (he : exec i s = .next t) (h : s.Inv) : t.Inv := by
    obtain ⟨hbank, hburst⟩ := Block.inv_iff.1 h
    refine Block.inv_iff.2 ⟨exec_bank hbank he, ?_⟩
    cases i with
    | timerFire =>
      obtain ⟨htimer, rfl⟩ := execTimerFire_next.1 he
      exact hburst.raiseTimer htimer
    | burstEnter =>
      obtain ⟨hacc, rfl⟩ := execBurstEnter_next.1 he
      exact hburst.enterInterrupt hacc
    | emitH => exact execEmitH_burst hburst he
    | emitM => exact execEmitM_burst hburst he
    | emitL => exact execEmitL_burst hburst he
    | burstExit =>
      obtain ⟨hdue, rfl⟩ := burstStep_next.1 he
      exact hburst.leaveInterrupt ((Bool.and_eq_true _ _).mp hdue).1
    | _ => cases hi
  cases hi : isHostMove i with
  | false => exact part hi he h
  | true =>
    by_cases hfire : i = .fire
    · subst hfire
      exact execFire_of_steps (R := fun s t => s.Inv → t.Inv) (fun _ => id) (fun hst htu => htu ∘ hst) part he h
    · obtain ⟨hbank, hburst⟩ := Block.inv_iff.1 h
      refine Block.inv_iff.2 ⟨exec_bank hbank he, ?_⟩
      obtain ⟨k, l, rfl, hk⟩ := exec_sameBurst hi hfire he
      obtain ⟨k', l', e, hk'⟩ := exec_extends he
      cases e
      exact hburst.of_sameBurst hk hk'.timer

/-- Time that may pass keeps the invariant. -/
theorem passTime_inv {s : State} {n : Time} (hn : s.block.mayPass s.platform.timing n) (h : s.Inv) : (s.passTime n).Inv := by
  obtain ⟨hbank, hburst⟩ := Block.inv_iff.1 h
  exact Block.inv_iff.2 ⟨hbank.congr (Block.passTime_timeline ..) (Block.passTime_activeMask ..) (Block.passTime_dir ..)
    (Block.passTime_timerConfigured ..) (Block.passTime_fg ..), hburst.passTime hn⟩

end Sys2Proof.Machine

namespace Sys2Proof.Proofs
open Sys2Proof Sys2Proof.Machine

/-- Settles O30: the schedule is not in the invariant, and each part of a step keeps it. -/
theorem everyStepKeepsTheInvariant : Obligations.EveryStepKeepsTheInvariant := by
  unfold Obligations.EveryStepKeepsTheInvariant
  intro s t h hstep
  exact step_of_parts (R := fun s t => s.Inv → t.Inv) (fun _ => id) (fun hst htu => htu ∘ hst) (fun _ _ => id) passTime_inv
    (fun he h => exec_inv h he) hstep h

end Sys2Proof.Proofs
end

section
/-!
PROOF. A SET_THROTTLE interrupted between its micro-steps (R79): LATCH and the first `n` TLW as one change of the block, and the torn frame
the timeline then holds for a lane (R39, R132, decision D9).
-/
namespace Sys2Proof.Machine

/-- Operations run one after the other are the first ones, then the others. -/
theorem runInstrs_append (xs ys : List Instr) (s : State) :
    runInstrs (xs ++ ys) s = (runInstrs xs s).andThen (runInstrs ys) := by
  induction xs generalizing s with
  | nil => rfl
  | cons x xs ih =>
    simp only [List.cons_append, runInstrs]
    cases exec x s with
    | next t => exact ih t
    | fault e => rfl
    | refused e => rfl

@[simp] theorem runInstrs_singleton (i : Instr) (s : State) : runInstrs [i] s = exec i s := by
  unfold runInstrs
  cases exec i s <;> rfl

/-- The slots up to and including `i` are those before `i`, then `i`. -/
theorem take_finRange_succ (i : Slot) : (List.finRange 16).take (i.val + 1) = (List.finRange 16).take i.val ++ [i] := by
  rw [List.take_succ_eq_append_getElem (by simp), List.getElem_finRange]
  rfl

/-- The timeline with the update of R78 made in its first `n` entries. -/
def tornTimeline {w : Nat} (timeline : Vector (BitVec w) 16) (m : BitVec w) (frame : Word16) (n : Nat) : Vector (BitVec w) 16 :=
  Vector.ofFn fun i : Slot => if i.val < n then entryUpdate timeline[i] m (frameBit frame i) else timeline[i]

section
variable {w : Nat} (timeline : Vector (BitVec w) 16) (m : BitVec w) (frame : Word16)

theorem tornTimeline_getElem (n : Nat) {j : Nat} (hj : j < 16) :
    (tornTimeline timeline m frame n)[j] = if j < n then entryUpdate timeline[j] m (frameBit frame ⟨j, hj⟩) else timeline[j] :=
  Vector.getElem_ofFn ..

@[simp] theorem tornTimeline_zero : tornTimeline timeline m frame 0 = timeline := by
  ext1 j hj
  simp [tornTimeline_getElem]

/-- Entry `i` is still the old one when only the entries before it are updated. -/
theorem tornTimeline_getElem_self (i : Slot) : (tornTimeline timeline m frame i.val)[i] = timeline[i] :=
  (tornTimeline_getElem ..).trans (if_neg (Nat.lt_irrefl _))

/-- The update of entry `i` after those before it. -/
theorem tornTimeline_set (i : Slot) :
    (tornTimeline timeline m frame i.val).set i (entryUpdate timeline[i] m (frameBit frame i)) =
      tornTimeline timeline m frame (i.val + 1) := by
  ext1 j hj
  rw [Vector.getElem_set, tornTimeline_getElem, tornTimeline_getElem]
  by_cases hij : i.val = j
  · subst hij
    rw [if_pos rfl, if_pos (Nat.lt_succ_self _)]
    rfl
  · have hlt : j < i.val + 1 ↔ j < i.val := by omega
    simp only [if_neg hij, hlt]

/-- A slot of the torn frame of a lane: the new frame's under the mask and before slot `n`, else the old frame's. -/
theorem frameBit_storedFrame_tornTimeline (n : Nat) (b : Lane) (i : Slot) :
    frameBit (storedFrame (tornTimeline timeline m frame n) b) i =
      if i.val < n ∧ m.getLsbD b = true then frameBit frame i else frameBit (storedFrame timeline b) i := by
  rw [frameBit_storedFrame, frameBit_storedFrame, Fin.getElem_fin, tornTimeline_getElem]
  by_cases hi : i.val < n
  · simp [hi, entryUpdate_getLsbD]
  · simp [hi]

/-- A lane outside the mask holds its old frame. -/
theorem storedFrame_tornTimeline_of_not_mask (n : Nat) {b : Lane} (hb : m.getLsbD b = false) :
    storedFrame (tornTimeline timeline m frame n) b = storedFrame timeline b :=
  eq_of_frameBit_eq fun i => by simp [frameBit_storedFrame_tornTimeline, hb]

end

/-- Bit `j` of a frame is carried in slot `15 - j` (R32). -/
theorem getLsbD_eq_frameBit (f : Word16) {j : Nat} (hj : j < 16) : f.getLsbD j = frameBit f ⟨15 - j, by omega⟩ := by
  simp only [frameBit, show 15 - (15 - j) = j by omega]

/-- A binding's mask is the low PORT_W bits of its operand (R52). -/
theorem Platform.bindingOf_getLsbD (p : Platform) (a : Operand) (b : Lane) :
    (p.bindingOf a).getLsbD b = (decide (b < p.portW) && a.testBit b) := BitVec.getLsbD_ofNat ..

/-- The block when the SET_THROTTLE of a mask and a frame has written its first `n` entries; the last write ends it (R79). -/
def Block.throttledTo {w : Nat} (k : Block w) (m : BitVec w) (frame : Word16) (n : Fin 17) : Block w :=
  (k.setTimeline (tornTimeline k.timeline m frame n.val)).setFg
    { k.fg with op := if n = 16 then .none else .setThrottle, mask := m, frame := frame, idx := n }

section
variable {s : State}

/-- LATCH begins a SET_THROTTLE with no entry written. -/
theorem exec_latch_eq (h : s.block.HostReady) (a : Operand) (v : Word16) :
    exec (.latch a v) s = .next { s with block := s.block.throttledTo (s.platform.bindingOf a) (encodeSpeed v) 0 } := by
  refine hostOperation_next.2 ⟨h, ?_⟩
  simp [Block.throttledTo, Block.setTimeline]

/-- TLW i, with the entries before `i` written, writes entry `i`. -/
theorem exec_tlw_eq (hidle : s.block.tx.state = .idle) (m : BitVec s.platform.portW) (frame : Word16) (i : Slot) :
    exec (.tlw i) { s with block := s.block.throttledTo m frame i.castSucc } =
      .next { s with block := s.block.throttledTo m frame i.succ } := by
  have hne : i.castSucc ≠ 16 := Fin.castSucc_ne_last i
  have hlast : i.succ = 16 ↔ i = 15 := Fin.succ_eq_last_succ (i := i)
  refine microStep_next.2 ⟨hidle, ?_, ?_⟩
  · simp [Block.throttledTo, hne]
  · simp only [Block.throttledTo, hlast, Block.tlWrite, Block.tlRead, Block.setTimeline, Block.setFg, Fin.val_castSucc,
      Fin.val_succ, tornTimeline_getElem_self, tornTimeline_set]

/-- LATCH and the first `n` TLW from a ready host. -/
theorem runInstrs_latch_tlws (h : s.block.HostReady) (a : Operand) (v : Word16) (n : Fin 17) :
    runInstrs (.latch a v :: ((List.finRange 16).take n.val).map .tlw) s =
      .next { s with block := s.block.throttledTo (s.platform.bindingOf a) (encodeSpeed v) n } := by
  induction n using Fin.induction with
  | zero => exact (runInstrs_singleton _ s).trans (exec_latch_eq h a v)
  | succ i ih =>
    rw [Fin.val_castSucc] at ih
    rw [Fin.val_succ, take_finRange_succ, List.map_append, ← List.cons_append, runInstrs_append, ih, Result.andThen_of_next]
    exact (runInstrs_singleton _ _).trans (exec_tlw_eq h.1 _ _ i)

end

end Sys2Proof.Machine

namespace Sys2Proof.Proofs
open Sys2Proof Sys2Proof.Machine

/-- Settles O43: the micro-steps leave the timeline updated in its first `n` entries, whose frame is read off slot by slot. -/
theorem tornFrameIsNewAboveOld : Obligations.TornFrameIsNewAboveOld := by
  unfold Obligations.TornFrameIsNewAboveOld
  intro s a v n h hn
  refine ⟨_, runInstrs_latch_tlws h a v ⟨n, Nat.lt_succ_of_le hn⟩, fun b hb ha j hj => ?_, fun b ha => ?_⟩
  · have hslot : 15 - j < n ↔ 16 - n ≤ j := by omega
    simp only [getLsbD_eq_frameBit _ hj]
    refine (frameBit_storedFrame_tornTimeline ..).trans ?_
    simp [Platform.bindingOf_getLsbD, hb, ha, hslot]
  · exact storedFrame_tornTimeline_of_not_mask _ _ _ n (by simp [Platform.bindingOf_getLsbD, ha])

end Sys2Proof.Proofs
end

section
/-!
PROOF. The request word (R52), the payload and the frame (R46, R47): each field reads back what it was put together from, so decoding
undoes encoding; and what a request word means by its `op` field.
-/
namespace Sys2Proof

section
variable {aw : Nat} (op : BitVec 2) (a : BitVec aw) (speed : Word16)

@[simp] theorem reqOp_reqMake : reqOp (reqMake op a speed) = op := by
  rw [reqOp, reqMake, BitVec.extractLsb'_cast, BitVec.extractLsb'_append_eq_of_le (Nat.le_add_left 16 aw), Nat.add_sub_cancel]
  exact BitVec.extractLsb'_append_eq_left

@[simp] theorem reqA_reqMake : reqA (reqMake op a speed) = a := by
  rw [reqA, reqMake, BitVec.extractLsb'_cast, BitVec.extractLsb'_append_eq_of_le le_rfl]
  exact BitVec.extractLsb'_append_eq_right

@[simp] theorem reqSpeed_reqMake : reqSpeed (reqMake op a speed) = speed := by
  rw [reqSpeed, reqMake, BitVec.extractLsb'_cast]
  exact BitVec.extractLsb'_append_eq_right

end

/-- The payload's fields are where R46 puts them. -/
theorem decodePayload_append (f : BitVec 11) (t : BitVec 1) : decodePayload (f ++ t) = .fPayload f t := by
  rw [decodePayload, BitVec.extractLsb'_append_eq_left, BitVec.extractLsb'_append_eq_right]

section
variable (f : BitVec 11) (t : BitVec 1) (c : BitVec 4)

/-- S is the upper eleven bits of a frame. -/
theorem frame_speed : (f ++ t ++ c).extractLsb' 5 11 = f := by
  rw [BitVec.extractLsb'_append_eq_of_le (by decide)]
  exact BitVec.extractLsb'_append_eq_left

/-- T is bit 4 of a frame. -/
theorem frame_flag : (f ++ t ++ c).extractLsb' 4 1 = t := by
  rw [BitVec.extractLsb'_append_eq_of_le le_rfl]
  exact BitVec.extractLsb'_append_eq_right

/-- The frame's fields are where R47 puts them. -/
theorem decodeFrame_append : decodeFrame (f ++ t ++ c) = .fFrame f t c := by
  rw [decodeFrame, frame_speed, frame_flag, BitVec.extractLsb'_append_eq_right]

end

/-- A request word's `op` field alone says which operation it is (R52). -/
theorem decodeRequest_cases {aw : Nat} (w : BitVec (aw + 18)) :
    decodeRequest w = .nop ∨ (∃ pin, decodeRequest w = .attach pin) ∨ (∃ a v, decodeRequest w = .setThrottle a v) ∨
      decodeRequest w = .reqReserved := by
  unfold decodeRequest
  split
  · exact .inl rfl
  · split
    · exact .inr (.inl ⟨_, rfl⟩)
    · split
      · exact .inr (.inr (.inl ⟨_, _, rfl⟩))
      · exact .inr (.inr (.inr rfl))

/-- Decoding the word of an operation whose operand fits gives the operation back. -/
theorem decode_encode {aw : Nat} {i : Instr} {c : CodeWord} (hfit : i.fits aw = true) (hc : encode aw i = some c) :
    decode c = i := by
  cases i with
  | nop | reqReserved =>
    cases hc
    simp [decode, decodeRequest]
  | attach _ | setThrottle _ _ =>
    cases hc
    simpa [decode, decodeRequest] using Nat.mod_eq_of_lt (of_decide_eq_true hfit)
  | encode _ =>
    cases hc
    rfl
  | fPayload f t =>
    cases hc
    exact decodePayload_append f t
  | fFrame f t c =>
    cases hc
    exact decodeFrame_append f t c
  | _ => cases hc

end Sys2Proof

namespace Sys2Proof.Proofs
open Sys2Proof Sys2Proof.Machine

/-- Settles O58: a word's fields read back what `encode` put in them, and an operand that fits in its field is not cut. -/
theorem decodeOfEncode : Obligations.DecodeOfEncode := by
  unfold Obligations.DecodeOfEncode
  intro aw i c
  exact decode_encode

/-- Settles O59: the three comparisons of the decoder, read as one choice by the number in the `op` field. -/
theorem requestWordFields : Obligations.RequestWordFields := by
  unfold Obligations.RequestWordFields
  intro aw w
  simp only [decode, decodeRequest, reqOp, ← BitVec.toNat_inj, BitVec.toNat_ofNat]
  match (w.extractLsb' (aw + 16) 2).toNat with
  | 0 => rfl
  | 1 => rfl
  | 2 => rfl
  | n + 3 => simp

/-- Settles O2: the `op` field of the word is 3, which O59 decodes to the reserved code, and that is refused. -/
theorem reservedRequestIsRefused : Obligations.ReservedRequestIsRefused := by
  unfold Obligations.ReservedRequestIsRefused
  intro s aw w hop
  have hdec : decode (.request aw w) = .reqReserved := by
    rw [requestWordFields aw w, hop]
    rfl
  exact ⟨hdec, hdec ▸ rfl⟩

/-- Settles O1: NOP answers the state it is given. -/
theorem nopChangesNothing : Obligations.NopChangesNothing := by
  unfold Obligations.NopChangesNothing
  intro s
  rfl

/-- Settles O60: ten words, each decoded bit by bit. -/
theorem writtenOutWordsDecode : Obligations.WrittenOutWordsDecode := by
  unfold Obligations.WrittenOutWordsDecode
  decide

end Sys2Proof.Proofs
end

section
/-!
PROOF. The encoder's frame field by field (R57, R61 to R64), and what the data formats of the table give back (R46, R47, R49 to R51).
-/
namespace Sys2Proof.Machine

/-- `frame_ok` says that the frame's four nibbles XOR to zero (R57). -/
theorem frameOk_iff {f : Word16} :
    frameOk f = true ↔ f.extractLsb' 12 4 ^^^ f.extractLsb' 8 4 ^^^ f.extractLsb' 4 4 ^^^ f.extractLsb' 0 4 = 0 := by
  rw [frameOk, beq_iff_eq, eq_comm]
  exact BitVec.xor_eq_zero_iff.symm

/-- A field put into the bits a left shift frees is appended to the bits that stay. -/
theorem shiftLeft_or_setWidth {m n : Nat} (x : BitVec (m + n)) (y : BitVec n) :
    x <<< n ||| y.setWidth (m + n) = x.extractLsb' 0 m ++ y := by
  ext j hj
  rw [BitVec.getElem_append]
  by_cases hlow : j < n
  · simp [hlow]
  · have hhigh : n ≤ j := Nat.le_of_not_lt hlow
    have hlt : j - n < m + n := by omega
    simp [hlow, BitVec.getLsbD_of_ge y j hhigh, BitVec.getLsbD_eq_getElem hlt]

section
variable (p : Word16) (c : BitVec 4)

/-- Assembly puts the payload's low twelve bits above the checksum (R64). -/
theorem assembleFrame_eq_append : assembleFrame p c = p.extractLsb' 0 12 ++ c := shiftLeft_or_setWidth (m := 12) (n := 4) p c

/-- A field of the frame above the checksum is the payload's, four bits lower. -/
theorem assembleFrame_extract {i n : Nat} (h : i + n ≤ 12) :
    (assembleFrame p c).extractLsb' (i + 4) n = p.extractLsb' i n := by
  rw [assembleFrame_eq_append, BitVec.extractLsb'_append_eq_of_le (Nat.le_add_left 4 i), Nat.add_sub_cancel,
    BitVec.extractLsb'_extractLsb'_of_le h]

theorem assembleFrame_low : (assembleFrame p c).extractLsb' 0 4 = c := by
  rw [assembleFrame_eq_append]
  exact BitVec.extractLsb'_append_eq_right

/-- Three rounds of folding XOR the payload's three low nibbles (R63). -/
theorem checksumOf_eq : checksumOf p = p.extractLsb' 8 4 ^^^ p.extractLsb' 4 4 ^^^ p.extractLsb' 0 4 := by
  have hshift (n : Nat) : (p >>> n).extractLsb' 0 4 = p.extractLsb' n 4 := by
    ext j hj
    simp
  have hzero : (0 : Word16).extractLsb' 0 4 = 0#4 := rfl
  simp only [checksumOf, foldRounds, BitVec.extractLsb'_xor, ← BitVec.shiftRight_add, hshift, hzero, BitVec.zero_xor]
  ac_rfl

end

section
variable (v : Word16)

/-- The payload is the speed's low fifteen bits above the flag (R61, R62). -/
theorem payloadOf_eq_append : payloadOf v = v.extractLsb' 0 15 ++ BitVec.ofBool (telemetryFlag (payloadBeforeFlag v)) :=
  shiftLeft_or_setWidth (m := 15) (n := 1) v _

theorem payloadOf_speed : (payloadOf v).extractLsb' 1 11 = v.extractLsb' 0 11 := by
  rw [payloadOf_eq_append, BitVec.extractLsb'_append_eq_of_le le_rfl, BitVec.extractLsb'_extractLsb'_of_le (by decide)]

theorem payloadOf_flag : (payloadOf v).extractLsb' 0 1 = BitVec.ofBool (telemetryFlag (payloadBeforeFlag v)) := by
  rw [payloadOf_eq_append]
  exact BitVec.extractLsb'_append_eq_right

/-- Every encoded frame passes its check (R67): its upper nibbles are the payload's three, and the lowest is their XOR. -/
theorem frameOk_encodeSpeed : frameOk (encodeSpeed v) = true := by
  have h8 : (encodeSpeed v).extractLsb' 12 4 = (payloadOf v).extractLsb' 8 4 := assembleFrame_extract _ _ (by decide)
  have h4 : (encodeSpeed v).extractLsb' 8 4 = (payloadOf v).extractLsb' 4 4 := assembleFrame_extract _ _ (by decide)
  have h0 : (encodeSpeed v).extractLsb' 4 4 = (payloadOf v).extractLsb' 0 4 := assembleFrame_extract _ _ (by decide)
  have hcheck : (encodeSpeed v).extractLsb' 0 4 = checksumOf (payloadOf v) := assembleFrame_low _ _
  rw [frameOk_iff, h8, h4, h0, hcheck, checksumOf_eq]
  exact BitVec.xor_self

end

/-- The symbol of a slot on a lane is chosen by the lane's bit of the slot's entry (R50, R51). -/
theorem laneSymbols_getElem? {w : Nat} (timeline : Vector (BitVec w) 16) (b : Lane) (i : Slot) :
    (laneSymbols timeline b)[i.val]? = some (symbolOf (timeline[i].getLsbD b)) := by
  simp [laneSymbols]

@[simp] theorem laneSymbols_length {w : Nat} (timeline : Vector (BitVec w) 16) (b : Lane) : (laneSymbols timeline b).length = 16 := by
  simp [laneSymbols]

end Sys2Proof.Machine

namespace Sys2Proof.Proofs
open Sys2Proof Sys2Proof.Machine

/-- Settles O52: the frame is the payload above the checksum, the payload the speed above the flag. -/
theorem encodedFrameFields : Obligations.EncodedFrameFields := by
  unfold Obligations.EncodedFrameFields
  intro v
  refine ⟨?speed, ?flag, ?payload, ?checksum, frameOk_encodeSpeed v⟩
  case speed => exact (assembleFrame_extract _ _ (i := 1) (by decide)).trans (payloadOf_speed v)
  case flag => exact (assembleFrame_extract _ _ (i := 0) (by decide)).trans (payloadOf_flag v)
  case payload => exact assembleFrame_extract _ _ (i := 0) le_rfl
  case checksum => exact (assembleFrame_low _ _).trans (checksumOf_eq _)

/-- Settles O6: the formats give back the fields put one above the other, a payload with four zero bits above it. -/
theorem payloadAndFrameFormatsAnswer : Obligations.PayloadAndFrameFormatsAnswer := by
  unfold Obligations.PayloadAndFrameFormatsAnswer
  intro p k l f t c
  refine ⟨⟨_, rfl, ?_, ?_, ?_⟩, _, _, rfl, frame_speed f t c, frame_flag f t c, BitVec.extractLsb'_append_eq_right, frameOk_iff⟩
  · rw [BitVec.extractLsb'_setWidth_of_le (by decide)]
    exact BitVec.extractLsb'_append_eq_left
  · rw [BitVec.extractLsb'_setWidth_of_le (by decide)]
    exact BitVec.extractLsb'_append_eq_right
  · ext j hj
    simp

/-- Settles O7: the stored frame and the symbols of a lane are read off the same bit of each entry. -/
theorem timelineAndBurstFormatsAnswer : Obligations.TimelineAndBurstFormatsAnswer := by
  unfold Obligations.TimelineAndBurstFormatsAnswer
  intro p k l b
  refine ⟨⟨_, rfl, frameBit_storedFrame k.timeline b⟩, _, rfl, fun hoff => ?_, fun hon => ?_⟩
  · simp [hoff]
  · simp only [hon, if_true]
    exact ⟨laneSymbols_length _ b, laneSymbols_getElem? _ b⟩

/-- Settles O8: a symbol's levels are those after its three writes, and its low time is what its high time leaves of the bit period. -/
theorem symbolFormatsAnswer : Obligations.SymbolFormatsAnswer := by
  unfold Obligations.SymbolFormatsAnswer
  intro p k l
  refine ⟨rfl, ?_⟩
  rw [sub_sub]
  rfl

end Sys2Proof.Proofs
end

section
/-!
PROOF. What one step does with the head of the schedule (R52, R58, R59): a line or a request that can be taken is run, and an operation in
progress goes on with the micro-step that is due (R70, R75, R79).
-/
namespace Sys2Proof.Machine

/-- The micro-step that is due is the one `fg` stands at (R75, R79). -/
theorem Fg.nextMicroStep_eq_some {w : Nat} {f : Fg w} {i : Instr} : f.nextMicroStep = some i ↔
    (f.op = .attach ∧ f.step = 1 ∧ i = .tmrcfg) ∨ (f.op = .attach ∧ f.step = 2 ∧ ∃ n : Slot, f.idx = n.castSucc ∧ i = .tlc n) ∨
    (f.op = .attach ∧ f.step = 3 ∧ i = .amclr) ∨ (f.op = .attach ∧ f.step = 4 ∧ i = .amor) ∨
    (f.op = .setThrottle ∧ ∃ n : Slot, f.idx = n.castSucc ∧ i = .tlw n) := by
  have entry (c : Slot → Instr) : (if h : f.idx.val < 16 then some (c ⟨f.idx.val, h⟩) else none) = some i ↔
      ∃ n : Slot, f.idx = n.castSucc ∧ i = c n := by
    constructor
    · intro h
      split at h
      · exact ⟨_, rfl, (Option.some.inj h).symm⟩
      · cases h
    · rintro ⟨n, hn, rfl⟩
      simp [hn]
  cases hop : f.op with
  | none => simp [Fg.nextMicroStep, hop]
  | setThrottle => simp [Fg.nextMicroStep, hop, entry .tlw]
  | attach =>
    by_cases h1 : f.step = 1
    · simp [Fg.nextMicroStep, hop, h1, eq_comm]
    by_cases h2 : f.step = 2
    · simp [Fg.nextMicroStep, hop, h2, entry .tlc]
    by_cases h3 : f.step = 3
    · simp [Fg.nextMicroStep, hop, h3, eq_comm]
    by_cases h4 : f.step = 4
    · simp [Fg.nextMicroStep, hop, h4, eq_comm]
    simp [Fg.nextMicroStep, hop, h1, h2, h3, h4]

/-- The host may take a step exactly outside a burst with no firing to accept. -/
theorem Block.hostSuspended_eq_false {w : Nat} {k : Block w} :
    k.hostSuspended = false ↔ k.inBurst = false ∧ k.interruptAcceptable = false := Bool.or_eq_false_iff

theorem Block.operationInProgress_eq_false {w : Nat} {k : Block w} : k.operationInProgress = false ↔ k.fg.op = .none := by
  simp [Block.operationInProgress]

/-- A request word of the platform's width, as a number, asks for what it decodes to (R52). -/
theorem Platform.requested_toNat (p : Platform) (w : BitVec (p.aW + 18)) : p.requested w.toNat = decode (.request p.aW w) := by
  rw [Platform.requested, BitVec.ofNat_toNat, BitVec.setWidth_eq]

section
variable {s : State} {rest : List Input} {r : Nat} {i : Instr}

theorem step_line (hin : s.inputs = .line i :: rest) (hfree : s.block.hostSuspended = false) :
    step s = exec i (s.setInputs rest) := by
  simp [step, runInput, hin, hfree]

theorem step_request (hin : s.inputs = .request r :: rest) (hfree : s.block.hostSuspended = false)
    (hop : s.block.operationInProgress = false) : step s = exec (s.platform.requested r) (s.setInputs rest) := by
  simp [step, runInput, hin, hfree, hop]

theorem step_requestStepwise (hin : s.inputs = .requestStepwise r :: rest) (hfree : s.block.hostSuspended = false)
    (hop : s.block.operationInProgress = false) :
    step s = exec (firstMicroStep (s.platform.requested r)) (s.setInputs rest) := by
  simp [step, runInput, hin, hfree, hop]

/-- While the host waits or an operation is in progress, a request of either form waits too. -/
theorem step_of_busy (hin : s.inputs = [] ∨ (∃ r, s.inputs = .request r :: rest) ∨ ∃ r, s.inputs = .requestStepwise r :: rest)
    (hbusy : (s.block.hostSuspended || s.block.operationInProgress) = true) : step s = advance s := by
  obtain hin | ⟨r, hin⟩ | ⟨r, hin⟩ := hin <;> simp only [step, runInput, hin, hbusy, if_true]

/-- With the host free, the agent whose turn it is takes the micro-step that is due, and no time passes in it. -/
theorem advance_of_nextMicroStep (hfree : s.block.hostSuspended = false) (hdue : s.block.fg.nextMicroStep = some i) :
    advance s = exec i s := by
  obtain ⟨hidle, hquiet⟩ := Block.hostSuspended_eq_false.1 hfree
  have hawait : s.awaitStep = s := by simp [State.awaitStep, Block.awaitStep_idle hidle]
  simp [advance, Block.nextMove, hidle, hquiet, hdue, hawait]

/-- An operation in progress goes on with the micro-step that is due. -/
theorem step_of_nextMicroStep (hfree : s.block.hostSuspended = false)
    (hin : s.inputs = [] ∨ (∃ r, s.inputs = .request r :: rest) ∨ ∃ r, s.inputs = .requestStepwise r :: rest)
    (hdue : s.block.fg.nextMicroStep = some i) : step s = exec i s := by
  have hop : s.block.operationInProgress = true := by
    by_contra hno
    rw [Bool.not_eq_true, Block.operationInProgress_eq_false] at hno
    simp [Fg.nextMicroStep, hno] at hdue
  exact (step_of_busy hin (by simp [hop])).trans (advance_of_nextMicroStep hfree hdue)

end

end Sys2Proof.Machine

namespace Sys2Proof.Proofs
open Sys2Proof Sys2Proof.Machine

/-- Settles O25: the number of a word of the platform's width decodes as the word. -/
theorem stepRunsTheDecodedRequest : Obligations.StepRunsTheDecodedRequest := by
  unfold Obligations.StepRunsTheDecodedRequest
  intro p k rest hfree
  refine ⟨fun i => step_line rfl hfree, fun hop w => ?_⟩
  rw [step_request rfl hfree (Block.operationInProgress_eq_false.2 hop)]
  exact congrArg (exec · _) (p.requested_toNat w)

/-- Settles O26: a request begins with its first micro-step, and each later one is the one `fg` stands at. -/
theorem stepwiseRequestGoesMicroStepByMicroStep : Obligations.StepwiseRequestGoesMicroStepByMicroStep := by
  unfold Obligations.StepwiseRequestGoesMicroStepByMicroStep
  intro p k l rest hfree
  refine ⟨fun hop w => ?_, fun hin => ?_⟩
  · have hreq : p.requested w.toNat = decode (.request (max p.pinIdW p.portW) w) := p.requested_toNat w
    rw [step_requestStepwise rfl hfree (Block.operationInProgress_eq_false.2 hop)]
    simp only [State.setInputs_mk, hreq]
    cases decode (.request (max p.pinIdW p.portW) w) with
    | attach _ => rfl
    | setThrottle _ _ => rfl
    | _ => rfl
  · have due {i : Instr} (h : k.fg.nextMicroStep = some i) : step ⟨p, k, l⟩ = exec i ⟨p, k, l⟩ := step_of_nextMicroStep hfree hin h
    refine ⟨fun hop => ⟨fun h1 => due ?_, fun h2 n hn => due ?_, fun h3 => due ?_, fun h4 => due ?_⟩, fun hop n hn => due ?_⟩
    · exact Fg.nextMicroStep_eq_some.2 (.inl ⟨hop, h1, rfl⟩)
    · exact Fg.nextMicroStep_eq_some.2 (.inr (.inl ⟨hop, h2, n, Fin.ext hn, rfl⟩))
    · exact Fg.nextMicroStep_eq_some.2 (.inr (.inr (.inl ⟨hop, h3, rfl⟩)))
    · exact Fg.nextMicroStep_eq_some.2 (.inr (.inr (.inr (.inl ⟨hop, h4, rfl⟩))))
    · exact Fg.nextMicroStep_eq_some.2 (.inr (.inr (.inr (.inr ⟨hop, n, Fin.ext hn, rfl⟩))))

end Sys2Proof.Proofs
end

section
/-!
PROOF. From the invariant no step of the machine stops but at the reserved request (R55, R105): each agent's step is due where its turn
comes, and the host's operations find the host ready.
-/
namespace Sys2Proof.Machine

/-- A request word asks for one of the four requests (R52). -/
theorem Platform.requested_cases (p : Platform) (r : Nat) :
    p.requested r = .nop ∨ (∃ pin, p.requested r = .attach pin) ∨ (∃ a v, p.requested r = .setThrottle a v) ∨
      p.requested r = .reqReserved := decodeRequest_cases _

@[simp] theorem Block.awaitStep_tx {w : Nat} (k : Block w) (t : Timing) : (k.awaitStep t).tx = k.tx := by
  cases h : k.inBurst
  · rw [Block.awaitStep_idle h]
  · rw [Block.awaitStep_burst h, Block.passTime_tx]

/-- Whose turn it is: the transmitter in a burst, then the acceptance of a firing, then the operation in progress (R85, R109). -/
theorem Block.nextMove_cases {w : Nat} {k : Block w} {i : Instr} (h : k.nextMove = some i) :
    (k.inBurst = true ∧ k.tx.nextStep = some i) ∨ (k.inBurst = false ∧ k.interruptAcceptable = true ∧ i = .burstEnter) ∨
      (k.hostSuspended = false ∧ k.fg.nextMicroStep = some i) := by
  unfold Block.nextMove at h
  split at h
  · exact .inl ⟨‹_›, h⟩
  · rename_i hb
    rw [Bool.not_eq_true] at hb
    split at h
    · exact .inr (.inl ⟨hb, ‹_›, (Option.some.inj h).symm⟩)
    · rename_i ha
      exact .inr (.inr ⟨Block.hostSuspended_eq_false.2 ⟨hb, Bool.eq_false_iff.2 ha⟩, h⟩)

section
variable {s : State} {i : Instr}

/-- In a burst the sequencer's step is due where it stands; BURST_EXIT needs slot 15, where phase X is reached (R89). -/
theorem exec_nextStep_completes (hexit : s.block.tx.state = .emit → s.block.tx.phase = .x → s.block.tx.slot = 15)
    (h : s.block.tx.nextStep = some i) : ∃ t, exec i s = .next t := by
  unfold Tx.nextStep at h
  split at h
  case h_1 => cases h
  case h_2 harmed =>
    cases h
    exact ⟨_, burstStep_next.2 ⟨by simp [harmed], rfl⟩⟩
  case h_3 hemit =>
    split at h <;> cases h <;> rename_i hph
    · exact ⟨_, burstStep_next.2 ⟨by simp [Tx.emitting_iff, hemit, hph], rfl⟩⟩
    · exact ⟨_, burstStep_next.2 ⟨Tx.emitting_iff.2 ⟨hemit, hph⟩, rfl⟩⟩
    · exact ⟨_, burstStep_next.2 ⟨Tx.emitting_iff.2 ⟨hemit, hph⟩, rfl⟩⟩
    · exact ⟨_, burstStep_next.2 ⟨by simp [Tx.emitting_iff, hemit, hph, hexit hemit hph], rfl⟩⟩

/-- The micro-step that is due completes outside a burst. -/
theorem exec_nextMicroStep_completes (hidle : s.block.tx.state = .idle) (h : s.block.fg.nextMicroStep = some i) :
    ∃ t, exec i s = .next t := by
  obtain ⟨hop, hstep, rfl⟩ | ⟨hop, hstep, n, hn, rfl⟩ | ⟨hop, hstep, rfl⟩ | ⟨hop, hstep, rfl⟩ | ⟨hop, n, hn, rfl⟩ :=
    Fg.nextMicroStep_eq_some.1 h
  · exact ⟨_, microStep_next.2 ⟨hidle, Block.attachAt_iff.2 ⟨hop, hstep⟩, rfl⟩⟩
  · exact ⟨_, microStep_next.2 ⟨hidle, by simp [Block.attachAt, hop, hstep, hn], rfl⟩⟩
  · exact ⟨_, microStep_next.2 ⟨hidle, Block.attachAt_iff.2 ⟨hop, hstep⟩, rfl⟩⟩
  · exact ⟨_, microStep_next.2 ⟨hidle, Block.attachAt_iff.2 ⟨hop, hstep⟩, rfl⟩⟩
  · exact ⟨_, microStep_next.2 ⟨hidle, by simp [hop, hn], rfl⟩⟩

theorem Block.inBurst_eq_false {w : Nat} {k : Block w} : k.inBurst = false ↔ k.tx.state = .idle := by
  simp [Block.inBurst]

/-- From the invariant the agent whose turn it is takes its step. -/
theorem advance_completes (hinv : s.Inv) : ∃ t, advance s = .next t := by
  cases hmove : s.block.nextMove with
  | none => exact ⟨s, by simp [advance, hmove]⟩
  | some i =>
    have hadv : advance s = exec i s.awaitStep := by simp [advance, hmove]
    obtain ⟨-, htx⟩ | ⟨hidle, hacc, rfl⟩ | ⟨hfree, hfg⟩ := Block.nextMove_cases hmove
    · rw [hadv]
      refine exec_nextStep_completes ?_ ?_ <;> simp only [State.awaitStep, Block.awaitStep_tx]
      · exact hinv.exit_after_last_slot
      · exact htx
    · have hawait : s.awaitStep = s := by simp [State.awaitStep, Block.awaitStep_idle hidle]
      rw [hadv, hawait]
      exact ⟨_, execBurstEnter_next.2 ⟨hacc, rfl⟩⟩
    · rw [advance_of_nextMicroStep hfree hfg]
      exact exec_nextMicroStep_completes (Block.inBurst_eq_false.1 (Block.hostSuspended_eq_false.1 hfree).1) hfg

/-- From the invariant a stretch of time passes, in part or in whole, or gives way to a step that is taken. -/
theorem elapseTime_completes (hinv : s.Inv) (n : Time) (rest : List Input) : ∃ t, elapseTime n rest s = .next t := by
  unfold elapseTime
  split
  · exact advance_completes hinv
  · split
    · dsimp only
      split
      · exact ⟨_, rfl⟩
      · exact advance_completes (s := s.setInputs _) hinv
    · split
      · exact ⟨_, rfl⟩
      · split <;> exact ⟨_, rfl⟩

/-- A ready host carries every request out, whole or its first micro-step, but the reserved one. -/
theorem exec_requested_completes (hready : s.block.HostReady) (r : Nat) :
    s.platform.requested r = .reqReserved ∨
      (∃ t, exec (s.platform.requested r) s = .next t) ∧ ∃ t, exec (firstMicroStep (s.platform.requested r)) s = .next t := by
  have hostOp (k : Block s.platform.portW) : ∃ t, hostOperation s k = .next t := ⟨_, hostOperation_next.2 ⟨hready, rfl⟩⟩
  obtain h | ⟨pin, h⟩ | ⟨a, v, h⟩ | h := s.platform.requested_cases r
  · exact .inr (h ▸ ⟨⟨s, rfl⟩, ⟨s, rfl⟩⟩)
  · exact .inr (h ▸ ⟨hostOp _, hostOp _⟩)
  · exact .inr (h ▸ ⟨hostOp _, hostOp _⟩)
  · exact .inl h

/-- A host that is not suspended, with no operation in progress, is ready (R70, R85). -/
theorem hostReady_of_not_busy (h : ¬ (s.block.hostSuspended || s.block.operationInProgress) = true) :
    s.block.hostSuspended = false ∧ s.block.operationInProgress = false ∧ s.block.HostReady := by
  rw [Bool.not_eq_true, Bool.or_eq_false_iff] at h
  obtain ⟨hfree, hop⟩ := h
  exact ⟨hfree, hop, Block.inBurst_eq_false.1 (Block.hostSuspended_eq_false.1 hfree).1, Block.operationInProgress_eq_false.1 hop⟩

/-- A request of either form at the head of the schedule waits, is carried out by a ready host, or is the reserved one. -/
theorem step_request_outcome {r : Nat} {rest : List Input} (hinv : s.Inv)
    (hin : s.inputs = .request r :: rest ∨ s.inputs = .requestStepwise r :: rest) :
    (∃ t, step s = .next t) ∨ (step s = .refused .reservedRequest ∧ s.platform.requested r = .reqReserved) := by
  by_cases hbusy : (s.block.hostSuspended || s.block.operationInProgress) = true
  · exact .inl (step_of_busy (.inr (hin.imp (⟨r, ·⟩) (⟨r, ·⟩))) hbusy ▸ advance_completes hinv)
  obtain ⟨hfree, hop, hready⟩ := hostReady_of_not_busy hbusy
  obtain hres | ⟨hwhole, hfirst⟩ := exec_requested_completes (s := s.setInputs rest) hready r
  · refine .inr ⟨?_, hres⟩
    obtain hin | hin := hin
    · exact (step_request hin hfree hop).trans (hres ▸ rfl)
    · exact (step_requestStepwise hin hfree hop).trans (hres ▸ rfl)
  · obtain hin | hin := hin
    · exact .inl (step_request hin hfree hop ▸ hwhole)
    · exact .inl (step_requestStepwise hin hfree hop ▸ hfirst)

end

end Sys2Proof.Machine

namespace Sys2Proof.Proofs
open Sys2Proof Sys2Proof.Machine

/-- Settles O31: by the item at the head of the schedule, which is time to pass, a move of some agent, or a request. -/
theorem onlyTheReservedRequestIsRefused : Obligations.OnlyTheReservedRequestIsRefused := by
  unfold Obligations.OnlyTheReservedRequestIsRefused
  intro s hinv hface
  cases hin : s.inputs with
  | nil => exact .inl (by simpa [step, runInput, hin] using advance_completes hinv)
  | cons x rest =>
    cases x with
    | elapse n => exact .inl (by simpa [step, runInput, hin] using elapseTime_completes hinv (max n 0) rest)
    | advance => exact .inl (by simpa [step, runInput, hin] using advance_completes (s := s.setInputs rest) hinv)
    | line i => exact absurd (hface (.line i) (by simp [hin])) Bool.false_ne_true
    | request r => exact (step_request_outcome hinv (.inl hin)).imp_right fun ⟨hstep, hres⟩ => ⟨hstep, r, rest, hres, .inl rfl⟩
    | requestStepwise r =>
      exact (step_request_outcome hinv (.inr hin)).imp_right fun ⟨hstep, hres⟩ => ⟨hstep, r, rest, hres, .inr rfl⟩

end Sys2Proof.Proofs
end

section
/-!
PROOF. The whole ATTACH and SET_THROTTLE as their micro-steps one after the other (R59, R71, R75, R77, R79), and the machine carrying out the
same micro-steps by itself for a stepwise request.
-/
namespace Sys2Proof.Machine

/-- Operations run one after the other are the first one, then the others. -/
theorem runInstrs_cons (i : Instr) (l : List Instr) (s : State) : runInstrs (i :: l) s = Result.andThen (exec i s) (runInstrs l) := by
  rw [← List.singleton_append, runInstrs_append, runInstrs_singleton]

/-! ### SET_THROTTLE -/

/-- With all sixteen entries written the timeline is that of the whole operation (R77). -/
theorem tornTimeline_all {w : Nat} (timeline : Vector (BitVec w) 16) (m : BitVec w) (frame : Word16) :
    tornTimeline timeline m frame 16 = throttleTimeline timeline m frame := by
  ext1 j hj
  rw [tornTimeline_getElem, if_pos hj]
  exact (throttleTimeline_getElem timeline m frame ⟨j, hj⟩).symm

/-- The whole SET_THROTTLE leaves the block as its last micro-step does. -/
theorem exec_setThrottle_eq {s : State} (h : s.block.HostReady) (a : Operand) (v : Word16) :
    exec (.setThrottle a v) s = .next { s with block := s.block.throttledTo (s.platform.bindingOf a) (encodeSpeed v) 16 } := by
  refine hostOperation_next.2 ⟨h, ?_⟩
  have hall : (16 : Fin 17).val = 16 := rfl
  simp only [Block.throttledTo, hall, tornTimeline_all, if_true]

/-! ### ATTACH -/

/-- The timeline with its first `n` entries cleared (R75): the update of R78 under every lane, by a frame of zeros. -/
def clearedTimeline {w : Nat} (timeline : Vector (BitVec w) 16) (n : Nat) : Vector (BitVec w) 16 :=
  tornTimeline timeline (BitVec.allOnes w) 0 n

/-- The update of R78 under every lane by a frame of zeros clears an entry. -/
theorem entryUpdate_allOnes_zero {w : Nat} (entry : BitVec w) (i : Slot) :
    entryUpdate entry (BitVec.allOnes w) (frameBit 0 i) = 0 := by
  simp [entryUpdate, frameBit]

section
variable {w : Nat} (timeline : Vector (BitVec w) 16)

theorem clearedTimeline_getElem (n : Nat) {j : Nat} (hj : j < 16) :
    (clearedTimeline timeline n)[j] = if j < n then 0 else timeline[j] := by
  rw [clearedTimeline, tornTimeline_getElem, entryUpdate_allOnes_zero]

@[simp] theorem clearedTimeline_zero : clearedTimeline timeline 0 = timeline := tornTimeline_zero ..

@[simp] theorem clearedTimeline_all : clearedTimeline timeline 16 = Vector.replicate 16 0 := by
  ext1 j hj
  simp [clearedTimeline_getElem, hj]

/-- The clear of entry `i` after those before it. -/
theorem clearedTimeline_set (i : Slot) : (clearedTimeline timeline i.val).set i 0 = clearedTimeline timeline (i.val + 1) := by
  rw [clearedTimeline, ← entryUpdate_allOnes_zero timeline[i] i]
  exact tornTimeline_set ..

end

/-- The block after the DIRSET of a mask (R75). -/
def Block.dirsetTo {w : Nat} (k : Block w) (m : BitVec w) : Block w :=
  (k.makeOutputs m).setFg { k.fg with op := .attach, mask := m, idx := 0, step := 1 }

/-- The block when the ATTACH of a mask has cleared its first `n` entries; after the last clear AMCLR is due (R75). -/
def Block.clearedTo {w : Nat} (k : Block w) (m : BitVec w) (n : Fin 17) : Block w :=
  ((k.makeOutputs m).startTimer.setTimeline (clearedTimeline k.timeline n.val)).setFg
    { k.fg with op := .attach, mask := m, idx := n, step := if n = 16 then 3 else 2 }

section
variable {s : State} {m : BitVec s.platform.portW}

theorem exec_dirset_eq (h : s.block.HostReady) (pin : Operand) :
    exec (.dirset pin) s = .next { s with block := s.block.dirsetTo (s.platform.maskOf pin) } :=
  hostOperation_next.2 ⟨h, rfl⟩

/-- TMRCFG after DIRSET leaves no entry cleared yet. -/
theorem exec_tmrcfg_eq (hidle : s.block.tx.state = .idle) :
    exec .tmrcfg { s with block := s.block.dirsetTo m } = .next { s with block := s.block.clearedTo m 0 } := by
  refine microStep_next.2 ⟨hidle, rfl, ?_⟩
  simp [Block.dirsetTo, Block.clearedTo, Block.startTimer_eq, Block.setTimeline, Block.setFg, Block.makeOutputs]

/-- TLC i, with the entries before `i` cleared, clears entry `i`. -/
theorem exec_tlc_eq (hidle : s.block.tx.state = .idle) (i : Slot) :
    exec (.tlc i) { s with block := s.block.clearedTo m i.castSucc } = .next { s with block := s.block.clearedTo m i.succ } := by
  have hne : i.castSucc ≠ 16 := Fin.castSucc_ne_last i
  have hlast : i.succ = 16 ↔ i = 15 := Fin.succ_eq_last_succ (i := i)
  refine microStep_next.2 ⟨by simpa [Block.clearedTo] using hidle, ?_, ?_⟩
  · simp [Block.clearedTo, Block.attachAt, hne]
  · simp only [Block.clearedTo, hlast, Block.tlWrite, Block.setTimeline, Block.setFg, Fin.val_castSucc, Fin.val_succ,
      clearedTimeline_set]

/-- AMCLR and AMOR after the last clear leave the block as the whole ATTACH does. -/
theorem runInstrs_amclr_amor (h : s.block.HostReady) (pin : Operand) :
    runInstrs [.amclr, .amor] { s with block := s.block.clearedTo (s.platform.maskOf pin) 16 } = exec (.attach pin) s := by
  have hidle : (s.block.clearedTo (s.platform.maskOf pin) 16).tx.state = .idle := by simpa [Block.clearedTo] using h.1
  have hattach : exec (.attach pin) s = .next _ := hostOperation_next.2 ⟨h, rfl⟩
  rw [hattach, runInstrs_cons]
  refine Result.andThen_next.2 ⟨_, microStep_next.2 ⟨hidle, rfl, rfl⟩, ?_⟩
  refine (runInstrs_singleton _ _).trans (microStep_next.2 ⟨hidle, rfl, ?_⟩)
  simp [Block.clearedTo, Block.startTimer_eq, Block.setTimeline, Block.setFg, Block.setActive, Block.makeOutputs, Block.answer,
    State.clearedActive]

/-- DIRSET, TMRCFG and the first `n` TLC from a ready host. -/
theorem runInstrs_dirset_tmrcfg_tlcs (h : s.block.HostReady) (pin : Operand) (n : Fin 17) :
    runInstrs (.dirset pin :: .tmrcfg :: ((List.finRange 16).take n.val).map .tlc) s =
      .next { s with block := s.block.clearedTo (s.platform.maskOf pin) n } := by
  induction n using Fin.induction with
  | zero =>
    show runInstrs [.dirset pin, .tmrcfg] s = _
    rw [runInstrs_cons, exec_dirset_eq h, Result.andThen_of_next, runInstrs_singleton, exec_tmrcfg_eq h.1]
  | succ i ih =>
    rw [Fin.val_castSucc] at ih
    rw [Fin.val_succ, take_finRange_succ, List.map_append, ← List.cons_append, ← List.cons_append, runInstrs_append, ih,
      Result.andThen_of_next]
    exact (runInstrs_singleton _ _).trans (exec_tlc_eq h.1 i)

end

/-! ### The machine by itself -/

/-- The micro-steps that go on with an operation in progress (R75, R79). -/
def isMicroStep : Instr → Bool
  | .tmrcfg | .tlc _ | .amclr | .amor | .tlw _ => true
  | _ => false

/-- Outside a burst with no firing pending the host may take a step. -/
theorem Block.hostSuspended_of_quiet {w : Nat} {k : Block w} (hidle : k.tx.state = .idle) (hpend : k.tmrPending = false) :
    k.hostSuspended = false := by
  simp [Block.hostSuspended, Block.inBurst, Block.interruptAcceptable, hidle, hpend]

theorem isHostMove_of_isMicroStep {i : Instr} (h : isMicroStep i = true) : isHostMove i = true ∧ i ≠ .fire := by
  cases i with
  | tmrcfg | tlc _ | amclr | amor | tlw _ => exact ⟨rfl, nofun⟩
  | _ => cases h

section
variable {s t : State} {i : Instr}

/-- A micro-step that is carried out was the one due. -/
theorem nextMicroStep_of_exec (hi : isMicroStep i = true) (h : exec i s = .next t) :
    s.block.tx.state = .idle ∧ s.block.fg.nextMicroStep = some i := by
  rw [Fg.nextMicroStep_eq_some]
  cases i with
  | tmrcfg | amclr | amor =>
    obtain ⟨hidle, hdue, -⟩ := microStep_next.1 h
    simpa [hidle] using Block.attachAt_iff.1 hdue
  | tlc n =>
    obtain ⟨hidle, hdue, -⟩ := microStep_next.1 h
    simpa [hidle, Block.attachAt, and_assoc] using hdue
  | tlw n =>
    obtain ⟨hidle, hdue, -⟩ := microStep_next.1 h
    simpa [hidle] using hdue
  | _ => cases hi

/-- The foreground raises no firing and adds nothing to the schedule. -/
theorem exec_quiet (hi : isHostMove i = true) (hfire : i ≠ .fire) (h : exec i s = .next t) (hin : s.inputs = [])
    (hpend : s.block.tmrPending = false) : t.inputs = [] ∧ t.block.tmrPending = false := by
  obtain ⟨k, rfl⟩ := exec_next h
  obtain ⟨k', l, e, -, -, hp, -⟩ := exec_sameBurst hi hfire h
  cases e
  exact ⟨hin, hp.trans hpend⟩

theorem run_succ_of_step {n : Nat} (h : step s = .next t) :
    Host.Core.run Sys2Proof.core (n + 1) s = Host.Core.run Sys2Proof.core n t := by
  have hcore : Sys2Proof.core.step s = .next t := h
  simp [Host.Core.run, hcore]

/-- With nothing on the schedule and no firing pending, the machine takes by itself the micro-steps that complete one after the other. -/
theorem run_of_runInstrs {l : List Instr} (hl : ∀ i ∈ l, isMicroStep i = true) (hin : s.inputs = [])
    (hpend : s.block.tmrPending = false) (h : runInstrs l s = .next t) : Host.Core.run Sys2Proof.core l.length s = .next t := by
  induction l generalizing s with
  | nil => exact h
  | cons i l ih =>
    rw [runInstrs_cons] at h
    obtain ⟨u, hu, h⟩ := Result.andThen_next.1 h
    have hi := hl i List.mem_cons_self
    obtain ⟨hidle, hdue⟩ := nextMicroStep_of_exec hi hu
    have hstep : step s = .next u :=
      (step_of_nextMicroStep (rest := []) (Block.hostSuspended_of_quiet hidle hpend) (.inl hin) hdue).trans hu
    obtain ⟨hmove, hfire⟩ := isHostMove_of_isMicroStep hi
    obtain ⟨hin, hpend⟩ := exec_quiet hmove hfire hu hin hpend
    exact (run_succ_of_step hstep).trans (ih (fun j hj => hl j (List.mem_cons_of_mem i hj)) hin hpend h)

/-- A stepwise request alone on the schedule is carried out as the expansion of the operation it asks for. -/
theorem run_requestStepwise {p : Platform} {k : Block p.portW} {r : Nat} {op : Instr} {l : List Instr} (hready : k.HostReady)
    (hpend : k.tmrPending = false) (hreq : p.requested r = op) (hexp : expansion op = firstMicroStep op :: l)
    (hfirst : isHostMove (firstMicroStep op) = true ∧ firstMicroStep op ≠ .fire) (hl : ∀ i ∈ l, isMicroStep i = true)
    (hwhole : runInstrs (expansion op) ⟨p, k, []⟩ = exec op ⟨p, k, []⟩) (hdone : exec op ⟨p, k, []⟩ = .next t) :
    Host.Core.run Sys2Proof.core (l.length + 1) (State.mk p k [.requestStepwise r]) = exec op ⟨p, k, []⟩ := by
  rw [hdone] at hwhole ⊢
  rw [hexp, runInstrs_cons] at hwhole
  obtain ⟨u, hu, hrest⟩ := Result.andThen_next.1 hwhole
  have hstep : step ⟨p, k, [.requestStepwise r]⟩ = .next u := by
    rw [step_requestStepwise rfl (Block.hostSuspended_of_quiet hready.1 hpend) (Block.operationInProgress_eq_false.2 hready.2), hreq]
    exact hu
  obtain ⟨hin, hpend⟩ := exec_quiet hfirst.1 hfirst.2 hu rfl hpend
  exact (run_succ_of_step hstep).trans (run_of_runInstrs hl hin hpend hrest)

end

end Sys2Proof.Machine

namespace Sys2Proof.Proofs
open Sys2Proof Sys2Proof.Machine

/-- Settles O37: DIRSET, TMRCFG and the sixteen clears, then AMCLR and AMOR. -/
theorem attachEqualsItsMicroSteps : Obligations.AttachEqualsItsMicroSteps := by
  unfold Obligations.AttachEqualsItsMicroSteps
  intro s pin h
  have hclears := runInstrs_dirset_tmrcfg_tlcs h pin 16
  rw [List.take_of_length_le (by simp)] at hclears
  show runInstrs (_ :: _ :: (List.finRange 16).map .tlc ++ [.amclr, .amor]) s = _
  rw [runInstrs_append, hclears, Result.andThen_of_next]
  exact runInstrs_amclr_amor h pin

/-- Settles O38: LATCH and all sixteen writes leave what the whole operation leaves. -/
theorem setThrottleEqualsItsMicroSteps : Obligations.SetThrottleEqualsItsMicroSteps := by
  unfold Obligations.SetThrottleEqualsItsMicroSteps
  intro s a v h
  have hwrites := runInstrs_latch_tlws h a v 16
  rw [List.take_of_length_le (by simp)] at hwrites
  exact hwrites.trans (exec_setThrottle_eq h a v).symm

/-- Settles O39: the whole operation is its expansion (O37, O38), which the machine carries out by itself. -/
theorem stepwiseRequestReachesTheWholeOperation : Obligations.StepwiseRequestReachesTheWholeOperation := by
  unfold Obligations.StepwiseRequestReachesTheWholeOperation
  intro p k r hready hpend
  refine ⟨fun pin hreq => ?_, fun a v hreq => ?_⟩
  · exact run_requestStepwise hready hpend hreq rfl ⟨rfl, nofun⟩ (by decide) (attachEqualsItsMicroSteps _ pin hready)
      (hostOperation_next.2 ⟨hready, rfl⟩)
  · exact run_requestStepwise hready hpend hreq rfl ⟨rfl, nofun⟩ (by decide) (setThrottleEqualsItsMicroSteps _ a v hready)
      (hostOperation_next.2 ⟨hready, rfl⟩)

end Sys2Proof.Proofs
end

section
/-!
PROOF. The encoder as arithmetic on the speed (R62, R64, R66, R68), and the operation that gives its frame back (R60, R67).
-/
namespace Sys2Proof.Machine

/-- Appending puts the left word above the right one, as a number in base `2 ^ n`. -/
theorem append_toNat {m n : Nat} (x : BitVec m) (y : BitVec n) : (x ++ y).toNat = 2 ^ n * x.toNat + y.toNat := by
  rw [BitVec.toNat_append, ← Nat.shiftLeft_add_eq_or_of_lt y.isLt, Nat.shiftLeft_eq, Nat.mul_comm]

/-- Only the low twelve bits of a payload are folded into its checksum (R63). -/
theorem checksumOf_congr {p q : Word16} (h : p.extractLsb' 0 12 = q.extractLsb' 0 12) : checksumOf p = checksumOf q := by
  have hnibble {i : Nat} (hi : i + 4 ≤ 12) : p.extractLsb' i 4 = q.extractLsb' i 4 := by
    rw [← BitVec.extractLsb'_extractLsb'_of_le hi, h, BitVec.extractLsb'_extractLsb'_of_le hi]
  rw [checksumOf_eq, checksumOf_eq, hnibble (by decide), hnibble (by decide), hnibble (by decide)]

/-- The frame as a number: the payload's low twelve bits above the checksum (R64). -/
theorem assembleFrame_toNat (p : Word16) (c : BitVec 4) : (assembleFrame p c).toNat = 16 * (p.toNat % 4096) + c.toNat := by
  rw [assembleFrame_eq_append, append_toNat, BitVec.extractLsb'_toNat, Nat.shiftRight_zero]
  rfl

/-- A frame is made from the payload before the flag and from nothing else of the speed. -/
theorem encodeSpeed_congr {v u : Word16} (h : payloadBeforeFlag v = payloadBeforeFlag u) : encodeSpeed v = encodeSpeed u := by
  simp only [encodeSpeed, payloadOf, h]

section
variable (v : Word16)

/-- Doubling the speed in 16 bits loses bit 15 (R61, decision D1). -/
theorem payloadBeforeFlag_toNat : (payloadBeforeFlag v).toNat = 2 * (v.toNat % 32768) := by
  rw [payloadBeforeFlag, BitVec.toNat_shiftLeft, Nat.shiftLeft_eq]
  omega

theorem payloadBeforeFlag_low : (payloadBeforeFlag v).extractLsb' 0 12 = v.extractLsb' 0 11 ++ 0#1 := by
  apply BitVec.eq_of_toNat_eq
  simp only [append_toNat, BitVec.extractLsb'_toNat, payloadBeforeFlag_toNat, Nat.shiftRight_zero, BitVec.toNat_ofNat]
  omega

/-- The limit 48 on the payload before the flag is 24 on the speed it doubles (R62). -/
theorem telemetryFlag_iff : telemetryFlag (payloadBeforeFlag v) = true ↔ v.toNat % 32768 < 24 := by
  have hlimit : Config.cmdLimit.toNat = 48 := rfl
  rw [telemetryFlag, BitVec.ult_iff_lt, BitVec.lt_def, payloadBeforeFlag_toNat, hlimit]
  omega

/-- The payload as a number: the doubled speed and the flag (R61, R62). -/
theorem payloadOf_toNat : (payloadOf v).toNat = 2 * (v.toNat % 32768) + (if v.toNat % 32768 < 24 then 1 else 0) := by
  rw [payloadOf_eq_append, append_toNat, BitVec.extractLsb'_toNat, Nat.shiftRight_zero, BitVec.toNat_ofBool, Bool.toNat]
  simp only [← telemetryFlag_iff, cond_eq_ite]
  rfl

/-- The flag adds a one bit to the payload exactly where it is set (R62). -/
theorem payloadOf_eq_or :
    payloadOf v = payloadBeforeFlag v ||| (if telemetryFlag (payloadBeforeFlag v) = true then 1 else 0) := by
  rw [payloadOf]
  cases telemetryFlag (payloadBeforeFlag v) <;> rfl

/-- Without the flag the payload is the payload before it. -/
theorem payloadOf_of_not_flag (h : 24 ≤ v.toNat % 32768) : payloadOf v = payloadBeforeFlag v := by
  rw [payloadOf_eq_or, if_neg ((telemetryFlag_iff v).not.2 (Nat.not_lt.2 h))]
  exact BitVec.or_zero

/-- S, the upper eleven bits of the frame, is the speed's low eleven bits (R47). -/
theorem encodeSpeed_speed : (encodeSpeed v).extractLsb' 5 11 = v.extractLsb' 0 11 :=
  (Proofs.encodedFrameFields v).left

end

section
variable {v : Word16} (hv : v.toNat ≤ 2047)
include hv

theorem payloadOf_toNat_of_le : (payloadOf v).toNat = 2 * v.toNat + (if v.toNat < 24 then 1 else 0) := by
  rw [payloadOf_toNat, Nat.mod_eq_of_lt (by omega)]

/-- The closed form of R68: the payload of a speed in range fits in the frame's twelve bits. -/
theorem encodeSpeed_toNat_of_le : (encodeSpeed v).toNat =
    32 * v.toNat + 16 * (if v.toNat < 24 then 1 else 0) + (checksumOf (payloadOf v)).toNat := by
  rw [encodeSpeed, assembleFrame_toNat, payloadOf_toNat_of_le hv]
  split <;> omega

/-- Speed 0 has the smallest frame, flag and checksum both 1; any other speed has 32 from the speed alone. -/
theorem encodeSpeed_ge_of_le : 17 ≤ (encodeSpeed v).toNat := by
  by_cases hzero : v = 0
  · subst hzero
    decide
  · have hpos : v.toNat ≠ 0 := fun h => hzero (BitVec.eq_of_toNat_eq h)
    rw [encodeSpeed_toNat_of_le hv]
    omega

end

/-- A speed in range is read back off its frame. -/
theorem encodeSpeed_injOn {v u : Word16} (hv : v.toNat ≤ 2047) (hu : u.toNat ≤ 2047) (h : encodeSpeed v = encodeSpeed u) :
    v = u := by
  have hlow : v.extractLsb' 0 11 = u.extractLsb' 0 11 := by rw [← encodeSpeed_speed, h, encodeSpeed_speed]
  have hmod := congrArg BitVec.toNat hlow
  simp only [BitVec.extractLsb'_toNat, Nat.shiftRight_zero] at hmod
  exact BitVec.eq_of_toNat_eq (by omega)

/-- Bits 14 to 11 of a speed are zero exactly when its low fifteen bits are a speed in range. -/
theorem speedHighBits_eq_zero_iff {v : Word16} : v.extractLsb' 11 4 = 0 ↔ v.toNat % 32768 < 2048 := by
  rw [← BitVec.toNat_inj, BitVec.extractLsb'_toNat, Nat.shiftRight_eq_div_pow]
  show v.toNat / 2048 % 16 = 0 ↔ _
  omega

/-- With bits 14 to 11 zero, only the low eleven bits count (R66). -/
theorem encodeSpeed_of_low {v : Word16} (h : v.toNat % 32768 < 2048) :
    encodeSpeed v = encodeSpeed ((v.extractLsb' 0 11).setWidth 16) := by
  apply encodeSpeed_congr
  apply BitVec.eq_of_toNat_eq
  simp only [payloadBeforeFlag_toNat, BitVec.toNat_setWidth, BitVec.extractLsb'_toNat, Nat.shiftRight_zero]
  omega

/-- With bits 14 to 11 not zero, the flag is 0 and the low eleven bits are sent (R66). -/
theorem encodeSpeed_of_high {v : Word16} (h : 2048 ≤ v.toNat % 32768) :
    encodeSpeed v = v.extractLsb' 0 11 ++ 0#1 ++ checksumOf ((v.extractLsb' 0 11).setWidth 16 <<< 1) := by
  have hlow : (payloadBeforeFlag v).extractLsb' 0 12 = ((v.extractLsb' 0 11).setWidth 16 <<< 1).extractLsb' 0 12 := by
    rw [← payloadBeforeFlag, payloadBeforeFlag_low, payloadBeforeFlag_low, BitVec.extractLsb'_setWidth_of_le (by decide),
      BitVec.extractLsb'_extractLsb'_of_le (by decide)]
  rw [encodeSpeed, payloadOf_of_not_flag v (by omega), assembleFrame_eq_append, payloadBeforeFlag_low, checksumOf_congr hlow]

/-- Bit 15 of a speed is shifted out (R61). -/
theorem encodeSpeed_xor_bit15 (v : Word16) : encodeSpeed (v ^^^ 0x8000#16) = encodeSpeed v := by
  have hout : 0x8000#16 <<< 1 = 0#16 := rfl
  apply encodeSpeed_congr
  rw [payloadBeforeFlag, BitVec.shiftLeft_xor_distrib, hout, BitVec.xor_zero, payloadBeforeFlag]

end Sys2Proof.Machine

namespace Sys2Proof.Proofs
open Sys2Proof Sys2Proof.Machine

/-- Settles O53: the flag is a comparison of the speed's low fifteen bits, which for a speed in range are the speed. -/
theorem telemetryFlagBelowTwentyFour : Obligations.TelemetryFlagBelowTwentyFour := by
  unfold Obligations.TelemetryFlagBelowTwentyFour
  intro v
  refine ⟨fun hv => ?_, telemetryFlag_iff v, payloadOf_eq_or v⟩
  rw [telemetryFlag_iff, Nat.mod_eq_of_lt (by omega)]

/-- Settles O55: frame and payload as sums, and the speed read back off the frame. -/
theorem encoderClosedForm : Obligations.EncoderClosedForm := by
  unfold Obligations.EncoderClosedForm
  exact ⟨fun v hv => ⟨encodeSpeed_toNat_of_le hv, payloadOf_toNat_of_le hv, encodeSpeed_ge_of_le hv⟩,
    fun v u => encodeSpeed_injOn⟩

/-- Settles O56: by whether the low fifteen bits, all that the encoder reads, are a speed in range. -/
theorem outOfRangeSpeeds : Obligations.OutOfRangeSpeeds := by
  unfold Obligations.OutOfRangeSpeeds
  intro v
  rw [Ne, speedHighBits_eq_zero_iff, Nat.not_lt]
  exact ⟨encodeSpeed_of_low, encodeSpeed_of_high, encodeSpeed_xor_bit15 v⟩

/-- Settles O3: ENCODE puts the frame on the answers and does nothing else, by its definition. -/
theorem encodeAnswersTheFrame : Obligations.EncodeAnswersTheFrame := by
  unfold Obligations.EncodeAnswersTheFrame
  intro p k l speed
  rfl

/-- Settles O54: the frame is the payload's low twelve bits with the checksum appended. -/
theorem frameAssembly : Obligations.FrameAssembly := by
  unfold Obligations.FrameAssembly
  intro p c
  exact ⟨assembleFrame_extract p c (i := 0) le_rfl, assembleFrame_low p c⟩

end Sys2Proof.Proofs
end

section
/-!
PROOF. What ATTACH, SET_THROTTLE and their micro-steps do to the block (R71 to R75, R77 to R79), and that each completes where it is due.
-/
namespace Sys2Proof.Machine

/-- A pin's mask, by the low PIN_ID_W bits of the operand (R52, R71). -/
theorem Platform.maskOf_eq (p : Platform) (a : Operand) : p.maskOf a = p.pinMask.getD (a % 2 ^ p.pinIdW) 0 := rfl

/-- The block after the whole ATTACH of a pin (R71, R72). -/
def Block.attached (p : Platform) (k : Block p.portW) (pin : Operand) : Block p.portW :=
  { k with
    dir := k.dir ||| p.maskOf pin
    timerConfigured := true
    timeline := Vector.replicate 16 0
    activeMask := (if p.attachClearsActive = true then 0 else k.activeMask) ||| p.maskOf pin
    fg := { k.fg with op := .none, mask := p.maskOf pin, idx := 16, step := 0 }
    answers := k.answers ++ [.binding (p.maskOf pin)] }

section
variable {s : State}

/-- The whole ATTACH from a ready host. -/
theorem exec_attach_eq (h : s.block.HostReady) (pin : Operand) :
    exec (.attach pin) s = .next { s with block := s.block.attached s.platform pin } := by
  refine hostOperation_next.2 ⟨h, ?_⟩
  simp only [Block.attached, Block.startTimer_eq, Block.makeOutputs, Block.setTimeline, Block.setActive, Block.setFg, Block.answer,
    State.clearedActive]

/-- AMCLR, due after the last clear. -/
theorem exec_amclr_eq (hidle : s.block.tx.state = .idle) (hop : s.block.fg.op = .attach) (hstep : s.block.fg.step = 3) :
    exec .amclr s = .next { s with block := (s.block.setActive s.clearedActive).setFg { s.block.fg with step := 4 } } :=
  microStep_next.2 ⟨hidle, Block.attachAt_iff.2 ⟨hop, hstep⟩, rfl⟩

end

theorem State.clearedActive_of_clears {s : State} (h : s.platform.attachClearsActive = true) : s.clearedActive = 0 := if_pos h

theorem State.clearedActive_of_keeps {s : State} (h : s.platform.attachClearsActive = false) :
    s.clearedActive = s.block.activeMask := if_neg (Bool.eq_false_iff.1 h)

end Sys2Proof.Machine

namespace Sys2Proof.Proofs
open Sys2Proof Sys2Proof.Machine

/-- Settles O4: the block after the whole ATTACH, with the mask looked up in the pin table. -/
theorem attachSetsTheBank : Obligations.AttachSetsTheBank := by
  unfold Obligations.AttachSetsTheBank
  intro p k l pin h
  simp only [← Platform.maskOf_eq]
  exact ⟨_, rfl, exec_attach_eq (s := ⟨p, k, l⟩) h pin⟩

/-- Settles O5: the new timeline is that of the whole operation, whose entries are given by the frame's bits (R32). -/
theorem setThrottleWritesTheFrame : Obligations.SetThrottleWritesTheFrame := by
  unfold Obligations.SetThrottleWritesTheFrame
  rintro p k l a _ speed h rfl
  refine ⟨{ k.fg with op := .none, mask := p.bindingOf a, frame := encodeSpeed speed, idx := 16 }, rfl,
    hostOperation_next.2 ⟨h, ?_⟩⟩
  simp only [throttleTimeline, frameBit, Platform.bindingOf, Block.setTimeline, Block.setFg]
  rfl

/-- Settles O9: the block after DIRSET, with the mask looked up in the pin table. -/
theorem dirsetMakesThePinAnOutput : Obligations.DirsetMakesThePinAnOutput := by
  unfold Obligations.DirsetMakesThePinAnOutput
  intro p k l pin h
  simp only [← Platform.maskOf_eq]
  exact exec_dirset_eq (s := ⟨p, k, l⟩) h pin

/-- Settles O10: starting the timer sets its flag, whether it was set or not. -/
theorem tmrcfgConfiguresTheTimer : Obligations.TmrcfgConfiguresTheTimer := by
  unfold Obligations.TmrcfgConfiguresTheTimer
  intro p k l hidle hop hstep
  refine microStep_next.2 ⟨hidle, Block.attachAt_iff.2 ⟨hop, hstep⟩, ?_⟩
  simp only [Block.startTimer_eq, Block.setFg]

/-- Settles O11: TLC i is due when `fg` counts `i` cleared entries. -/
theorem tlcClearsOneEntry : Obligations.TlcClearsOneEntry := by
  unfold Obligations.TlcClearsOneEntry
  intro p k l i hidle hop hstep hidx
  have hdue : k.fg.idx = i.castSucc := Fin.ext hidx
  have hlast : i = 15 ↔ i.val = 15 := Fin.ext_iff
  refine microStep_next.2 ⟨hidle, ?_, ?_⟩
  · simp [Block.attachAt, hop, hstep, hdue]
  · simp only [hlast]
    rfl

/-- Settles O12: the clear writes zero, or what stands there (R72). -/
theorem amclrClearsTheActiveMask : Obligations.AmclrClearsTheActiveMask := by
  unfold Obligations.AmclrClearsTheActiveMask
  intro p k l hidle hop hstep
  rw [exec_amclr_eq hidle hop hstep]
  refine ⟨fun hc => ?_, fun hc => ?_⟩
  · rw [State.clearedActive_of_clears hc]
    rfl
  · rw [State.clearedActive_of_keeps hc]
    rfl

/-- Settles O13: AMOR is due at step 4 of an ATTACH. -/
theorem amorMergesAndReturnsTheBinding : Obligations.AmorMergesAndReturnsTheBinding := by
  unfold Obligations.AmorMergesAndReturnsTheBinding
  intro p k l hidle hop hstep
  exact microStep_next.2 ⟨hidle, Block.attachAt_iff.2 ⟨hop, hstep⟩, rfl⟩

/-- Settles O14: LATCH writes `fg` only. -/
theorem latchTouchesNoSharedState : Obligations.LatchTouchesNoSharedState := by
  unfold Obligations.LatchTouchesNoSharedState
  intro p k l a speed h
  exact hostOperation_next.2 ⟨h, rfl⟩

/-- Settles O15: TLW i is due when `fg` counts `i` written entries, and makes the update of R78 in entry `i`. -/
theorem tlwUpdatesOneEntry : Obligations.TlwUpdatesOneEntry := by
  unfold Obligations.TlwUpdatesOneEntry
  intro p k l i hidle hop hidx
  have hdue : k.fg.idx = i.castSucc := Fin.ext hidx
  have hlast : i = 15 ↔ i.val = 15 := Fin.ext_iff
  refine microStep_next.2 ⟨hidle, ?_, ?_⟩
  · simp [hop, hdue]
  · simp only [hlast]
    rfl

/-- Settles O51: R78 bit by bit. -/
theorem entryUpdateUnderTheMask : Obligations.EntryUpdateUnderTheMask := by
  unfold Obligations.EntryUpdateUnderTheMask
  intro w entry mask bit b _
  exact entryUpdate_getLsbD entry mask bit b

end Sys2Proof.Proofs
end

section
/-!
PROOF. What sequences of host operations leave in the timeline: isolation of the pins and its limit (R82, R83), repeating a SET_THROTTLE
(R81), and an ATTACH in progress (R75, decision D8).
-/
namespace Sys2Proof.Machine

section
variable {w : Nat}

/-- R78 leaves what lies outside the mask. -/
theorem entryUpdate_and_not_mask (entry mask : BitVec w) (bit : Bool) : entryUpdate entry mask bit &&& ~~~mask = entry &&& ~~~mask := by
  apply BitVec.eq_of_getLsbD_eq
  intro b _
  rw [BitVec.getLsbD_and, BitVec.getLsbD_and, entryUpdate_getLsbD]
  cases hm : mask.getLsbD b <;> simp [hm]

/-- R78 made twice is R78 made once. -/
theorem entryUpdate_entryUpdate (entry mask : BitVec w) (bit : Bool) :
    entryUpdate (entryUpdate entry mask bit) mask bit = entryUpdate entry mask bit := by
  apply BitVec.eq_of_getLsbD_eq
  intro b _
  simp only [entryUpdate_getLsbD]
  split <;> rfl

/-- A timeline that carries a frame under a mask is not changed by writing the first entries of the same frame again. -/
theorem tornTimeline_tornTimeline_all (timeline : Vector (BitVec w) 16) (m : BitVec w) (frame : Word16) (n : Nat) :
    tornTimeline (tornTimeline timeline m frame 16) m frame n = tornTimeline timeline m frame 16 := by
  ext1 j hj
  rw [tornTimeline_getElem, tornTimeline_getElem, if_pos hj, entryUpdate_entryUpdate, ite_self]

end

/-- An operation that completes hands over to the rest of the sequence. -/
theorem runInstrs_cons_of_next {i : Instr} {s t : State} (h : exec i s = .next t) (l : List Instr) :
    runInstrs (i :: l) s = runInstrs l t := by
  rw [runInstrs_cons, h, Result.andThen_of_next]

/-- The whole ATTACH leaves no bit set in the timeline (R71). -/
theorem Block.attached_getElem (p : Platform) (k : Block p.portW) (pin : Operand) (i : Slot) : (k.attached p pin).timeline[i] = 0 :=
  Vector.getElem_replicate i.isLt

section
variable {s : State}

/-- A ready host carries out any ATTACH and is ready for the next operation. -/
theorem exec_attach_completes (h : s.block.HostReady) (pin : Operand) : ∃ t, exec (.attach pin) s = .next t ∧ t.block.HostReady :=
  ⟨_, exec_attach_eq h pin, h.1, rfl⟩

/-- A ready host carries out any SET_THROTTLE and is ready for the next operation. -/
theorem exec_setThrottle_completes (h : s.block.HostReady) (a : Operand) (v : Word16) :
    ∃ t, exec (.setThrottle a v) s = .next t ∧ t.block.HostReady :=
  ⟨_, exec_setThrottle_eq h a v, h.1, rfl⟩

/-- Every entry is zero after an ATTACH (R71). -/
theorem timeline_of_attach {t : State} {pin : Operand} (h : exec (.attach pin) s = .next t) (i : Slot) : t.block.timeline[i] = 0 := by
  obtain ⟨hready, -⟩ := hostOperation_next.1 h
  obtain rfl := Host.Outcome.next.inj ((exec_attach_eq hready pin).symm.trans h)
  exact Block.attached_getElem ..

end

end Sys2Proof.Machine

namespace Sys2Proof.Proofs
open Sys2Proof Sys2Proof.Machine

/-- Settles O44: the entries the clears have passed are zero, and `activeMask` is not written before AMCLR. -/
theorem partlyClearedTimelineDuringAttach : Obligations.PartlyClearedTimelineDuringAttach := by
  unfold Obligations.PartlyClearedTimelineDuringAttach
  intro p k l pin n h hn
  refine ⟨_, runInstrs_dirset_tmrcfg_tlcs (s := ⟨p, k, l⟩) h pin ⟨n, Nat.lt_succ_of_le hn⟩, ?_, fun i => ?_⟩
  · simp [Block.clearedTo]
  · have hentry : (clearedTimeline k.timeline n)[i] = if i.val < n then 0 else k.timeline[i] := clearedTimeline_getElem ..
    exact ⟨fun hi => hentry.trans (if_pos hi), fun hi => hentry.trans (if_neg (Nat.not_lt.2 hi))⟩

/-- Settles O45: R78 entry by entry for SET_THROTTLE; ATTACH writes zero to every entry. -/
theorem pinIsolation : Obligations.PinIsolation := by
  unfold Obligations.PinIsolation
  refine ⟨fun p k l a v t h => ?_, fun s t pin => timeline_of_attach⟩
  obtain ⟨-, rfl⟩ := hostOperation_next.1 h
  refine ⟨_, rfl, fun i => ?_⟩
  rw [Block.setFg_timeline, Block.setTimeline_timeline, throttleTimeline_getElem]
  exact entryUpdate_and_not_mask ..

/-- Settles O46: the entries already carry the frame under the mask, so writing them again changes none. -/
theorem setThrottleIsIdempotent : Obligations.SetThrottleIsIdempotent := by
  unfold Obligations.SetThrottleIsIdempotent
  intro p k l a v h
  refine ⟨_, exec_setThrottle_eq (s := ⟨p, k, l⟩) h a v, fun n hn => ?_⟩
  have hready : (k.throttledTo (p.bindingOf a) (encodeSpeed v) 16).HostReady := ⟨h.1, rfl⟩
  exact ⟨_, runInstrs_latch_tlws (s := ⟨p, _, l⟩) hready a v ⟨n, Nat.lt_succ_of_le hn⟩,
    tornTimeline_tornTimeline_all k.timeline (p.bindingOf a) (encodeSpeed v) n⟩

/-- Settles O47: each operation leaves the host ready for the next, and the last clears every entry. -/
theorem reattachmentWipesEveryLane : Obligations.ReattachmentWipesEveryLane := by
  unfold Obligations.ReattachmentWipesEveryLane
  intro s a b v h
  obtain ⟨t₁, h₁, hready₁⟩ := exec_attach_completes h a
  obtain ⟨t₂, h₂, hready₂⟩ := exec_setThrottle_completes hready₁ (s.platform.maskOf a).toNat v
  obtain ⟨t₃, h₃, -⟩ := exec_attach_completes hready₂ b
  refine ⟨t₃, ?_, timeline_of_attach h₃⟩
  rw [runInstrs_cons_of_next h₁, runInstrs_cons_of_next h₂, runInstrs_singleton, h₃]

end Sys2Proof.Proofs
end

section
/-!
PROOF. FIRE as one change of the block (R88, R94), slot by slot: the three port writes of a slot (R91 to R93), the burst from `Armed` to phase
X, and the frame its events carry on an active lane (R99).
-/
namespace Sys2Proof.Machine

/-- The three events of slot `i` in a burst (R91 to R93), as `burstTrace` lists them. -/
def slotEvents {w : Nat} (t : Timing) (start : Time) (n : Nat) (port active : BitVec w) (timeline : Vector (BitVec w) 16) (i : Slot) :
    List (PortEvent w) :=
  [{ burst := n, slot := i, phase := .h, value := raiseLanes port active, time := start + t.eventOffset i .h },
   { burst := n, slot := i, phase := .m, value := keepLanes (raiseLanes port active) active timeline[i],
     time := start + t.eventOffset i .m },
   { burst := n, slot := i, phase := .l, value := dropLanes port active, time := start + t.eventOffset i .l }]

/-- The 48 events of a burst are those of its slots in order. -/
theorem burstTrace_eq_flatMap {w : Nat} (t : Timing) (start : Time) (n : Nat) (port active : BitVec w)
    (timeline : Vector (BitVec w) 16) :
    burstTrace t start n port active timeline = (List.finRange 16).flatMap (slotEvents t start n port active timeline) := by
  refine congrArg (List.flatMap · (List.finRange 16)) (funext fun i => ?_)
  simp only [slotEvents, Timing.eventOffset, raiseLanes, keepLanes, dropLanes, add_assoc]

section
variable {w : Nat} (port active entry : BitVec w)

/-- The active lanes are low after a slot whatever they were, and the others are not written. -/
theorem dropLanes_keepLanes_raiseLanes : dropLanes (keepLanes (raiseLanes port active) active entry) active = dropLanes port active := by
  apply BitVec.eq_of_getLsbD_eq
  intro b _
  simp only [dropLanes_bit, keepLanes_bit, raiseLanes_bit]
  cases active.getLsbD b <;> simp

theorem raiseLanes_dropLanes : raiseLanes (dropLanes port active) active = raiseLanes port active := by
  apply BitVec.eq_of_getLsbD_eq
  intro b _
  simp only [dropLanes_bit, raiseLanes_bit]
  cases active.getLsbD b <;> simp

theorem dropLanes_dropLanes : dropLanes (dropLanes port active) active = dropLanes port active := by
  simp only [dropLanes, BitVec.and_assoc, BitVec.and_self]

/-- The next slots write what they would have written before this one. -/
theorem slotEvents_dropLanes (t : Timing) (start : Time) (n : Nat) (timeline : Vector (BitVec w) 16) :
    slotEvents t start n (dropLanes port active) active timeline = slotEvents t start n port active timeline := by
  funext i
  simp only [slotEvents, raiseLanes_dropLanes, dropLanes_dropLanes]

end

/-- The sequencer after the three port writes of slot `i` (R93). -/
def Tx.afterSlot (i : Slot) : Tx :=
  if i < 15 then { state := .emit, slot := i + 1, phase := .h } else { state := .emit, slot := i, phase := .x }

/-- The block after some port writes of a burst: the active lanes low, the events recorded, the sequencer moved on. -/
def Block.emitted {w : Nat} (k : Block w) (events : List (PortEvent w)) (tx : Tx) : Block w :=
  { k with port := dropLanes k.port k.activeMask, trace := k.trace ++ events, tx := tx }

/-- The events of slot `i` in the present burst of a block. -/
def Block.slotEvents {w : Nat} (k : Block w) (t : Timing) (i : Slot) : List (PortEvent w) :=
  Machine.slotEvents t k.burstStart k.burstCount k.port k.activeMask k.timeline i

section
variable {w : Nat} (k : Block w) (events events' : List (PortEvent w)) (tx tx' : Tx)

theorem Block.emitted_emitted : (k.emitted events tx).emitted events' tx' = k.emitted (events ++ events') tx' := by
  simp only [Block.emitted, dropLanes_dropLanes, List.append_assoc]

theorem Block.slotEvents_emitted (t : Timing) : (k.emitted events tx).slotEvents t = k.slotEvents t := slotEvents_dropLanes ..

end

/-- The slots from `i` on are `i`, then those after it. -/
theorem drop_finRange (i : Slot) : (List.finRange 16).drop i.val = i :: (List.finRange 16).drop (i.val + 1) := by
  rw [List.drop_eq_getElem_cons (by simp), List.getElem_finRange]
  rfl

/-- The sequencer in phase X, slot 15's last write done (R17). -/
def Tx.atExit : Tx := { state := .emit, slot := 15, phase := .x }

section
variable {s : State} {i : Slot}

/-- The three port writes of slot `i`, where the sequencer stands before its first (R94). -/
theorem emitSlot_eq (hslot : s.block.tx.emitSlot = i) (hdue : s.block.tx.state = .armed ∨ s.block.tx.emitting .h = true) :
    emitSlot s = .next { s with block := s.block.emitted (s.block.slotEvents s.platform.timing i) (.afterSlot i) } := by
  refine Result.andThen_next.2 ⟨_, burstStep_next.2 ⟨by simpa using hdue, rfl⟩, ?_⟩
  refine Result.andThen_next.2 ⟨_, burstStep_next.2 ⟨rfl, rfl⟩, ?_⟩
  refine burstStep_next.2 ⟨rfl, ?_⟩
  subst hslot
  simp only [Block.emitted, Block.slotEvents, slotEvents, Block.portWrite, Block.setTx, Block.tlRead, Tx.afterSlot,
    dropLanes_keepLanes_raiseLanes, List.append_assoc, List.cons_append, List.nil_append]

/-- The port writes of the slots from `i` on bring the sequencer to phase X. -/
theorem emitSlots_eq {n : Nat} (hn : i.val + n = 15) (hslot : s.block.tx.emitSlot = i)
    (hdue : s.block.tx.state = .armed ∨ s.block.tx.emitting .h = true) : emitSlots (n + 1) s = .next { s with
      block := s.block.emitted (((List.finRange 16).drop i.val).flatMap (s.block.slotEvents s.platform.timing)) .atExit } := by
  induction n generalizing s i with
  | zero =>
    have hi : i = 15 := Fin.ext hn
    subst hi
    exact Result.andThen_next.2 ⟨_, emitSlot_eq hslot hdue, rfl⟩
  | succ n ih =>
    have hi : i < 15 := Fin.lt_def.2 (show i.val < 15 by omega)
    have hsucc : (i + 1).val = i.val + 1 := Fin.val_add_one_of_lt hi
    have hafter : Tx.afterSlot i = { state := .emit, slot := i + 1, phase := .h } := if_pos hi
    refine Result.andThen_next.2 ⟨_, emitSlot_eq hslot hdue, ?_⟩
    rw [ih (i := i + 1) (by omega) (by rw [hafter]; rfl) (.inr (by rw [hafter]; rfl))]
    rw [Block.slotEvents_emitted, Block.emitted_emitted, hsucc, drop_finRange i, List.flatMap_cons]

end

/-- The block after FIRE (R88, R94): a burst of 48 port writes, and nothing else but the firing absorbed and the idle sequencer's don't-care
fields (assumption 7). -/
def Block.fired {w : Nat} (k : Block w) (t : Timing) : Block w :=
  { k with
    tmrPending := false
    tx := { state := .idle, slot := 15, phase := .x }
    burstStart := k.now
    burstCount := k.burstCount + 1
    port := dropLanes k.port k.activeMask
    trace := k.trace ++ burstTrace t k.now (k.burstCount + 1) k.port k.activeMask k.timeline }

section
variable {w : Nat} (k : Block w) (t : Timing)

@[simp] theorem Block.fired_timeline : (k.fired t).timeline = k.timeline := rfl
@[simp] theorem Block.fired_activeMask : (k.fired t).activeMask = k.activeMask := rfl
@[simp] theorem Block.fired_port : (k.fired t).port = dropLanes k.port k.activeMask := rfl
@[simp] theorem Block.fired_timerConfigured : (k.fired t).timerConfigured = k.timerConfigured := rfl
@[simp] theorem Block.fired_tx : (k.fired t).tx = { state := .idle, slot := 15, phase := .x } := rfl

end

/-- FIRE outside a burst, with interrupts enabled and the timer configured. -/
theorem exec_fire_eq {s : State} (hidle : s.block.tx.state = .idle) (hie : s.block.ie = true)
    (htimer : s.block.timerConfigured = true) : exec .fire s = .next { s with block := s.block.fired s.platform.timing } := by
  have hnotBurst : ¬ s.block.inBurst = true := by simp [Block.inBurst, hidle]
  have haccept : s.block.raiseTimer.interruptAcceptable = true := by simp [Block.interruptAcceptable, hie, hidle]
  refine (if_neg hnotBurst).trans (Result.andThen_next.2 ⟨_, execTimerFire_next.2 ⟨htimer, rfl⟩, ?_⟩)
  refine Result.andThen_next.2 ⟨_, execBurstEnter_next.2 ⟨haccept, rfl⟩, ?_⟩
  refine Result.andThen_next.2 ⟨_, emitSlots_eq (n := 15) (i := 0) rfl rfl (.inl rfl), ?_⟩
  refine burstStep_next.2 ⟨rfl, ?_⟩
  simp only [Block.fired, Block.emitted, Block.leaveInterrupt, burstTrace_eq_flatMap, ← hie]
  rfl

/-! ### The frame a burst carries -/

/-- A burst carries the frame `f` on a lane if it has an M event in every slot and the value of each shows the slot's bit there (R99). -/
theorem transmittedFrame_eq {w : Nat} {trace : List (PortEvent w)} {n : Nat} {b : Lane} {f : Word16}
    (hsent : ∀ i : Slot, ∃ e ∈ trace, e.burst = n ∧ e.slot = i ∧ e.phase = .m)
    (hbit : ∀ e ∈ trace, e.burst = n → e.phase = .m → e.value.getLsbD b = frameBit f e.slot) : transmittedFrame trace n b = f := by
  refine eq_of_frameBit_eq fun i => ?_
  rw [transmittedFrame, frameBit_ofFnBE]
  cases hfind : trace.find? fun e => decide (e.burst = n ∧ e.slot = i ∧ e.phase = .m) with
  | none =>
    obtain ⟨e, he, hmatch⟩ := hsent i
    exact absurd (decide_eq_true hmatch) (List.find?_eq_none.1 hfind e he)
  | some e =>
    have hmatch := List.find?_some hfind
    obtain ⟨hburst, rfl, hphase⟩ := of_decide_eq_true hmatch
    exact hbit e (List.mem_of_find?_eq_some hfind) hburst hphase

/-- The M event of a slot carries the entry's bit on an active lane (R92, R96). -/
theorem keepLanes_raiseLanes_bit_of_active {w : Nat} {port active entry : BitVec w} {b : Lane} (hb : active.getLsbD b = true) :
    (keepLanes (raiseLanes port active) active entry).getLsbD b = entry.getLsbD b := by
  simp [keepLanes_bit, raiseLanes_bit, hb]

/-- A burst carries on every active lane the frame the timeline holds for it (R97, R99), if its number is new to the trace. -/
theorem transmittedFrame_fired {w : Nat} {k : Block w} {b : Lane} (t : Timing) (hnew : ∀ e ∈ k.trace, e.burst ≤ k.burstCount)
    (hb : k.activeMask.getLsbD b = true) :
    transmittedFrame (k.fired t).trace (k.fired t).burstCount b = storedFrame k.timeline b := by
  simp only [Block.fired, burstTrace_eq_flatMap]
  refine transmittedFrame_eq (fun i => ?_) fun e he hburst hphase => ?_
  · exact ⟨_, List.mem_append_right _ (List.mem_flatMap.2 ⟨i, List.mem_finRange i, .tail _ (.head _)⟩), rfl, rfl, rfl⟩
  · obtain hold | he := List.mem_append.1 he
    · have := hnew e hold
      omega
    · obtain ⟨i, -, he⟩ := List.mem_flatMap.1 he
      simp only [slotEvents, List.mem_cons, List.not_mem_nil, or_false] at he
      obtain rfl | rfl | rfl := he
      · cases hphase
      · exact (keepLanes_raiseLanes_bit_of_active hb).trans (frameBit_storedFrame ..).symm
      · cases hphase

end Sys2Proof.Machine
end

section
/-!
PROOF. What a firing transmits after SET_THROTTLE (R77, R100, R127), and which lanes it moves after a second ATTACH (R72, R84, decision D6).
-/
namespace Sys2Proof.Machine

section
variable {w : Nat} (k : Block w) (m : BitVec w) (frame : Word16) (n : Fin 17)

@[simp] theorem Block.throttledTo_timeline : (k.throttledTo m frame n).timeline = tornTimeline k.timeline m frame n.val := by
  simp [Block.throttledTo]
@[simp] theorem Block.throttledTo_activeMask : (k.throttledTo m frame n).activeMask = k.activeMask := by simp [Block.throttledTo]
@[simp] theorem Block.throttledTo_port : (k.throttledTo m frame n).port = k.port := by simp [Block.throttledTo]
@[simp] theorem Block.throttledTo_timerConfigured : (k.throttledTo m frame n).timerConfigured = k.timerConfigured := by
  simp [Block.throttledTo]
@[simp] theorem Block.throttledTo_ie : (k.throttledTo m frame n).ie = k.ie := by simp [Block.throttledTo]
@[simp] theorem Block.throttledTo_tx : (k.throttledTo m frame n).tx = k.tx := by simp [Block.throttledTo]

end

/-- Between bursts interrupts are enabled (R22 (b)). -/
theorem Block.Inv.ie_of_idle {p : Platform} {k : Block p.portW} (h : k.Inv p) (hidle : k.tx.state = .idle) : k.ie = true := by
  rw [← Bool.not_eq_false, h.masked_in_burst]
  exact not_not_intro hidle

section
variable {s : State}

/-- From the invariant FIRE needs only an idle sequencer and a configured timer. -/
theorem exec_fire_of_inv (hinv : s.Inv) (hidle : s.block.tx.state = .idle) (htimer : s.block.timerConfigured = true) :
    exec .fire s = .next { s with block := s.block.fired s.platform.timing } :=
  exec_fire_eq hidle (Block.Inv.ie_of_idle hinv hidle) htimer

/-- From the invariant the number of the next burst is new to the trace, so the burst carries the stored frame. -/
theorem transmittedFrame_fired_of_inv (hinv : s.Inv) {b : Lane} (hb : s.block.activeMask.getLsbD b = true) :
    transmittedFrame (s.block.fired s.platform.timing).trace (s.block.fired s.platform.timing).burstCount b =
      storedFrame s.block.timeline b :=
  transmittedFrame_fired _ (fun e he => (Block.Inv.trace_numbers hinv e he).2.1) hb

end

/-- With every entry written, a lane of the mask holds the frame (R77). -/
theorem storedFrame_tornTimeline_of_mask {w : Nat} (timeline : Vector (BitVec w) 16) {m : BitVec w} (frame : Word16) {b : Lane}
    (hb : m.getLsbD b = true) : storedFrame (tornTimeline timeline m frame 16) b = frame :=
  eq_of_frameBit_eq fun i => by rw [frameBit_storedFrame_tornTimeline, if_pos ⟨i.isLt, hb⟩]

/-- A burst leaves a lane that is not active at its level (R103). -/
theorem Block.fired_port_of_not_active {w : Nat} (k : Block w) (t : Timing) {b : Lane} (hb : k.activeMask.getLsbD b = false) :
    (k.fired t).port.getLsbD b = k.port.getLsbD b := by
  simp [dropLanes_bit, hb]

section
variable {p : Platform} {k : Block p.portW} {l : List Input}

/-- Two ATTACHes one after the other. -/
theorem runInstrs_attach_attach (h : k.HostReady) (a b : Operand) :
    runInstrs [.attach a, .attach b] ⟨p, k, l⟩ = .next ⟨p, (k.attached p a).attached p b, l⟩ := by
  have hfirst : exec (.attach a) ⟨p, k, l⟩ = .next ⟨p, k.attached p a, l⟩ := exec_attach_eq h a
  rw [runInstrs_cons_of_next hfirst, runInstrs_singleton]
  exact exec_attach_eq (s := ⟨p, k.attached p a, l⟩) ⟨h.1, rfl⟩ b

/-- SET_THROTTLE and a firing move no lane that is not active, whatever the mask (R84 (a), R103). -/
theorem runInstrs_setThrottle_fire_port (h : k.HostReady) (hie : k.ie = true) (htimer : k.timerConfigured = true) (a : Operand)
    (v : Word16) : ∃ k' : Block p.portW, runInstrs [.setThrottle a v, .fire] ⟨p, k, l⟩ = .next ⟨p, k', l⟩ ∧
      ∀ n : Lane, k.activeMask.getLsbD n = false → k'.port.getLsbD n = k.port.getLsbD n := by
  have hset := exec_setThrottle_eq (s := ⟨p, k, l⟩) h a v
  refine ⟨_, (runInstrs_cons_of_next hset _).trans ((runInstrs_singleton _ _).trans (exec_fire_eq ?_ ?_ ?_)), fun n hn => ?_⟩
  · simpa using h.1
  · simpa using hie
  · simpa using htimer
  · rw [Block.fired_port_of_not_active _ _ (by simpa using hn), Block.throttledTo_port]

end

end Sys2Proof.Machine

namespace Sys2Proof.Proofs
open Sys2Proof Sys2Proof.Machine

/-- Settles O42: SET_THROTTLE stores the frame, and a burst carries what is stored and changes nothing of it for the next. -/
theorem commandedSpeedIsTransmitted : Obligations.CommandedSpeedIsTransmitted := by
  unfold Obligations.CommandedSpeedIsTransmitted
  intro s a v hinv h htimer
  have hset := exec_setThrottle_eq h a v
  have hinvSet := exec_inv hinv hset
  have hfire := exec_fire_of_inv hinvSet (by simpa using h.1) (by simpa using htimer)
  have hinvFire := exec_inv hinvSet hfire
  have hagain := exec_fire_of_inv hinvFire (by simp) (by simpa using htimer)
  refine ⟨_, _, (runInstrs_cons_of_next hset _).trans ((runInstrs_singleton _ _).trans hfire), hagain, fun b hactive hbit => ?_⟩
  have hmask : (s.platform.bindingOf a).getLsbD b = true := by
    simp [Platform.bindingOf_getLsbD, hbit, BitVec.lt_of_getLsbD hactive]
  have hstored := storedFrame_tornTimeline_of_mask s.block.timeline (encodeSpeed v) hmask
  refine ⟨(transmittedFrame_fired_of_inv hinvSet (by simpa using hactive)).trans ?_,
    (transmittedFrame_fired_of_inv hinvFire (by simpa using hactive)).trans ?_⟩
  · simpa using hstored
  · simpa using hstored

/-- Settles O48: the second ATTACH clears or keeps the first pin's mask (R72), and the burst moves active lanes only. -/
theorem earlierPinFallsSilent : Obligations.EarlierPinFallsSilent := by
  unfold Obligations.EarlierPinFallsSilent
  intro p k l a b v h hie
  obtain ⟨k₂, hburst, hport⟩ := runInstrs_setThrottle_fire_port (k := (k.attached p a).attached p b) (l := l) ⟨h.1, rfl⟩ hie rfl
    (p.maskOf a).toNat v
  refine ⟨_, k₂, runInstrs_attach_attach h a b, hburst, fun hclears => ?_, fun hkeeps => ?_, rfl⟩
  · have hactive : ((k.attached p a).attached p b).activeMask = p.maskOf b := by simp [Block.attached, hclears]
    exact ⟨hactive, fun n hn => hport n (hactive ▸ hn)⟩
  · simp [Block.attached, hkeeps]

end Sys2Proof.Proofs
end

section
/-!
PROOF. The single steps of the timer and the transmitter (R86, R90 to R93), where a step is refused (R70, R75, R79, R85, R89, R90), and what
FIRE does (R88, R97, R101).
-/
namespace Sys2Proof.Machine

section
variable {s : State} {k : Block s.platform.portW} {due : Bool}

/-- The host takes no step during a burst (R85). -/
theorem hostStep_of_burst {why : Refusal} (hburst : s.block.tx.state ≠ .idle) : hostStep s due why k = .refused .burstInProgress :=
  if_pos (by simpa [Block.inBurst] using hburst)

/-- Outside a burst a host step that is not due is refused for its own reason. -/
theorem hostStep_of_not_due {why : Refusal} (hidle : s.block.tx.state = .idle) (hdue : ¬ due = true) :
    hostStep s due why k = .refused why :=
  (if_neg (by simp [Block.inBurst, hidle])).trans (if_neg hdue)

/-- One host operation at a time (R70). -/
theorem hostOperation_of_operation (hidle : s.block.tx.state = .idle) (hop : s.block.fg.op ≠ .none) :
    hostOperation s k = .refused .operationInProgress :=
  hostStep_of_not_due hidle (by simpa [Block.operationInProgress] using hop)

/-- No transition of the transmitter exists but the one due (R89). -/
theorem burstStep_of_not_due (hdue : ¬ due = true) : burstStep s due k = .refused .burstStepOutOfOrder := if_neg hdue

end

/-- A firing can be accepted exactly outside a burst, with interrupts enabled and the flag set (R90, R108). -/
theorem Block.interruptAcceptable_iff {w : Nat} {k : Block w} :
    k.interruptAcceptable = true ↔ k.tx.state = .idle ∧ k.ie = true ∧ k.tmrPending = true := by
  simp only [Block.interruptAcceptable, Bool.and_eq_true, decide_eq_true_eq]
  tauto

/-- A burst writes the port 48 times (R94). -/
theorem burstTrace_length {w : Nat} (t : Timing) (start : Time) (n : Nat) (port active : BitVec w) (timeline : Vector (BitVec w) 16) :
    (burstTrace t start n port active timeline).length = 48 := by
  simp [burstTrace]

/-- With nothing active every write of a burst is the value the port had (R101). -/
theorem burstTrace_value_of_none_active {w : Nat} {t : Timing} {start : Time} {n : Nat} {port : BitVec w}
    {timeline : Vector (BitVec w) 16} {e : PortEvent w} (he : e ∈ burstTrace t start n port 0 timeline) : e.value = port := by
  obtain ⟨i, -, he⟩ := List.mem_flatMap.1 he
  simp only [List.mem_cons, List.not_mem_nil, or_false] at he
  obtain rfl | rfl | rfl := he <;> simp

end Sys2Proof.Machine

namespace Sys2Proof.Proofs
open Sys2Proof Sys2Proof.Machine

/-- Settles O22: the sixteen slots of the burst, each its three writes. -/
theorem fireEmitsTheWholeBurst : Obligations.FireEmitsTheWholeBurst := by
  unfold Obligations.FireEmitsTheWholeBurst
  intro p k l hidle hie htimer
  exact exec_fire_eq hidle hie htimer

/-- Settles O41: the invariant enables interrupts and makes the burst's number new to the trace. -/
theorem fireTransmitsTheStoredFrame : Obligations.FireTransmitsTheStoredFrame := by
  unfold Obligations.FireTransmitsTheStoredFrame
  intro s hinv hidle htimer
  exact ⟨_, exec_fire_of_inv hinv hidle htimer, fun b hb => transmittedFrame_fired_of_inv hinv hb⟩

/-- Settles O49: the events are those of the whole burst, each of which writes the port's own value. -/
theorem emptyBurstMovesNothing : Obligations.EmptyBurstMovesNothing := by
  unfold Obligations.EmptyBurstMovesNothing
  intro p k l hidle hie htimer hnone
  refine ⟨_, _, exec_fire_eq hidle hie htimer, ?_, rfl, burstTrace_length .., fun e he => ?_⟩
  · simp [dropLanes, hnone]
  · exact burstTrace_value_of_none_active (hnone ▸ he)

/-- Settles O16: TIMER_FIRE asks for the timer's configuration only, and a flag that is set stays set. -/
theorem timerFireOnlySetsPending : Obligations.TimerFireOnlySetsPending := by
  unfold Obligations.TimerFireOnlySetsPending
  intro p k l
  have hfire (htimer : k.timerConfigured = true) : exec .timerFire ⟨p, k, l⟩ = .next ⟨p, k.raiseTimer, l⟩ :=
    execTimerFire_next.2 ⟨htimer, rfl⟩
  refine ⟨hfire, fun htimer hpend => ?_, fun hoff => ?_⟩
  · have hsame : k.raiseTimer = k := by rw [Block.raiseTimer, ← hpend]
    exact (hfire htimer).trans (by rw [hsame])
  · exact if_neg (Bool.not_eq_true _ ▸ hoff)

/-- Settles O17: the precondition of R90 holds, and BURST_ENTER is the interrupt's entry. -/
theorem burstEnterTakesTheInterrupt : Obligations.BurstEnterTakesTheInterrupt := by
  unfold Obligations.BurstEnterTakesTheInterrupt
  intro p k l hidle hie hpend
  exact execBurstEnter_next.2 ⟨Block.interruptAcceptable_iff.2 ⟨hidle, hie, hpend⟩, rfl⟩

/-- Settles O18: the slot is 0 from `Armed`, whose offset is T_ENTRY alone, and else the present one. -/
theorem emitHRaisesEveryActiveLane : Obligations.EmitHRaisesEveryActiveLane := by
  unfold Obligations.EmitHRaisesEveryActiveLane
  intro p k l
  refine ⟨fun harmed => burstStep_next.2 ⟨by simp [harmed], ?_⟩,
    fun hemit hph => burstStep_next.2 ⟨by simp [Tx.emitting, hemit, hph], ?_⟩⟩
  · have hslot : k.tx.emitSlot = 0 := if_pos harmed
    have htime : p.timing.eventOffset 0 .h = p.timing.tEntry := by simp [Timing.eventOffset]
    simp only [Block.portWrite, Block.setTx, raiseLanes, hslot, htime]
  · have hslot : k.tx.emitSlot = k.tx.slot := if_neg (by simp [hemit])
    simp only [Block.portWrite, Block.setTx, raiseLanes, hslot, Timing.eventOffset_h, hemit]

/-- Settles O19: phase M is the step's precondition, and its event comes at the offset of R87. -/
theorem emitMDropsTheZeroLanes : Obligations.EmitMDropsTheZeroLanes := by
  unfold Obligations.EmitMDropsTheZeroLanes
  intro p k l hemit hph
  exact burstStep_next.2 ⟨Tx.emitting_iff.2 ⟨hemit, hph⟩, rfl⟩

/-- Settles O20: the sequencer goes on to the next slot below 15, and to phase X in slot 15. -/
theorem emitLDropsEveryActiveLane : Obligations.EmitLDropsEveryActiveLane := by
  unfold Obligations.EmitLDropsEveryActiveLane
  intro p k l hemit hph
  refine ⟨_, burstStep_next.2 ⟨Tx.emitting_iff.2 ⟨hemit, hph⟩, rfl⟩, ?_⟩
  by_cases hslot : k.tx.slot < 15
  · have hsucc : (k.tx.slot + 1).val = k.tx.slot.val + 1 := Fin.val_add_one_of_lt hslot
    have hne : k.tx.slot.val ≠ 15 := (Fin.lt_def.1 hslot).ne
    rw [if_pos hslot]
    exact ⟨hemit, fun _ => ⟨hsucc, rfl⟩, fun h => absurd h hne⟩
  · rw [if_neg hslot]
    exact ⟨hemit, fun h => absurd (Fin.lt_def.2 h) hslot, fun h => ⟨h, rfl⟩⟩

/-- Settles O23: the precondition of each step is the negation of its clause. -/
theorem stepsThatAreNotDueAreRefused : Obligations.StepsThatAreNotDueAreRefused := by
  unfold Obligations.StepsThatAreNotDueAreRefused
  intro s a v i
  refine ⟨fun hburst => ?burst, fun hidle hop => ?operation, fun hidle => ⟨?tmrcfg, ?tlc, ?amclr, ?amor, ?tlw⟩, fun hoff hidle => ?fire,
    fun h => ?enter, fun h => ?emitH, fun h => ?emitM, fun h => ?emitL, fun h => ?exit⟩
  case burst =>
    have hfire : exec .fire s = .refused .burstInProgress := if_pos (by simpa [Block.inBurst] using hburst)
    have host {due : Bool} {why : Refusal} {k : Block s.platform.portW} : hostStep s due why k = .refused .burstInProgress :=
      hostStep_of_burst hburst
    simp only [List.forall_mem_cons, List.not_mem_nil, false_implies, implies_true, and_true]
    exact ⟨host, host, host, host, host, host, host, host, host, hfire⟩
  case operation =>
    have host {k : Block s.platform.portW} : hostOperation s k = .refused .operationInProgress := hostOperation_of_operation hidle hop
    simp only [List.forall_mem_cons, List.not_mem_nil, false_implies, implies_true, and_true]
    exact ⟨host, host, host, host⟩
  case tmrcfg | amclr | amor =>
    exact fun h => hostStep_of_not_due hidle fun hdue => (not_and_or.2 h) (Block.attachAt_iff.1 hdue)
  case tlc =>
    intro h
    refine hostStep_of_not_due hidle fun hdue => ?_
    rw [Bool.and_eq_true, Block.attachAt_iff, decide_eq_true_eq] at hdue
    obtain ⟨⟨hop, hstep⟩, hidx⟩ := hdue
    simp [hop, hstep, hidx] at h
  case tlw =>
    intro h
    refine hostStep_of_not_due hidle fun hdue => ?_
    rw [Bool.and_eq_true, decide_eq_true_eq, decide_eq_true_eq] at hdue
    obtain ⟨hop, hidx⟩ := hdue
    simp [hop, hidx] at h
  case fire =>
    have hnotBurst : ¬ s.block.inBurst = true := by simp [Block.inBurst, hidle]
    have htimer : execTimerFire s = .refused .timerNotConfigured := if_neg (Bool.not_eq_true _ ▸ hoff)
    exact (if_neg hnotBurst).trans (congrArg (Result.andThen · _) htimer)
  case enter => exact if_neg fun hacc => h (Block.interruptAcceptable_iff.1 hacc)
  case emitH => exact burstStep_of_not_due (by simpa [Tx.emitting_iff] using h)
  case emitM => exact burstStep_of_not_due fun hdue => h (Tx.emitting_iff.1 hdue)
  case emitL => exact burstStep_of_not_due fun hdue => h (Tx.emitting_iff.1 hdue)
  case exit => exact burstStep_of_not_due (by simpa [Tx.emitting_iff] using h)

/-- Settles O50: the three formulas are those of the lanes one by one, in every lane, also past the port's width. -/
theorem lanesActIndependently : Obligations.LanesActIndependently := by
  unfold Obligations.LanesActIndependently
  intro w port active entry b
  exact ⟨raiseLanes_bit port active b, fun _ => keepLanes_bit port active entry b, fun _ => dropLanes_bit port active b⟩

end Sys2Proof.Proofs
end

section
/-!
PROOF. A step is some passing of time and then at most one operation, in a burst none of the foreground's (R85, R87). With it: foreign lanes
keep their level (R103), and a burst reads a stable bank (R98).
-/
namespace Sys2Proof.Machine

/-- Only the clock, the timer's phase and the pending flag may differ, which is what the passing of time writes. -/
def Block.SameButTime {w : Nat} (k k' : Block w) : Prop :=
  k' = { k with now := k'.now, tmrCount := k'.tmrCount, tmrPending := k'.tmrPending }

theorem Block.SameButTime.refl {w : Nat} (k : Block w) : k.SameButTime k := rfl

theorem Block.SameButTime.passTime {w : Nat} (k : Block w) (tFrame n : Time) : k.SameButTime (k.passTime tFrame n) := by
  simp only [Block.SameButTime, Block.passTime_eq]

theorem Block.SameButTime.awaitStep {w : Nat} (k : Block w) (t : Timing) : k.SameButTime (k.awaitStep t) := by
  unfold Block.awaitStep
  split
  · exact .passTime ..
  · exact .refl k

/-- The transmitter's step is none of the foreground's. -/
theorem isHostMove_of_nextStep {t : Tx} {i : Instr} (h : t.nextStep = some i) : isHostMove i = false := by
  unfold Tx.nextStep at h
  split at h
  · cases h
  · exact Option.some.inj h ▸ rfl
  · split at h <;> exact Option.some.inj h ▸ rfl

/-- From `s` some time passes, or none, and then at most one operation is carried out, in a burst one of the timer or the transmitter. -/
def State.TimeThenOperation (s t : State) : Prop :=
  ∃ u : State, s.Moves Block.SameButTime u ∧
    (t = u ∨ ∃ i, (s.block.inBurst = true → isHostMove i = false) ∧ exec i u = .next t)

section
variable {s t : State}

theorem advance_timeThenOperation (h : advance s = .next t) : s.TimeThenOperation t := by
  obtain ⟨i, hmove, h⟩ | ⟨-, rfl⟩ := advance_next h
  · refine ⟨_, ⟨_, _, rfl, .awaitStep _ _⟩, .inr ⟨i, fun hburst => ?_, h⟩⟩
    obtain ⟨-, htx⟩ | ⟨hidle, -⟩ | ⟨hfree, -⟩ := Block.nextMove_cases hmove
    · exact isHostMove_of_nextStep htx
    · exact absurd (hburst.symm.trans hidle) nofun
    · exact absurd (hburst.symm.trans (Block.hostSuspended_eq_false.1 hfree).1) nofun
  · exact ⟨_, ⟨_, _, rfl, .refl _⟩, .inl rfl⟩

theorem elapseTime_timeThenOperation {n : Time} {rest : List Input} (h : elapseTime n rest s = .next t) : s.TimeThenOperation t := by
  obtain ⟨-, h⟩ | ⟨-, -, -, rfl⟩ | ⟨-, -, -, h⟩ | ⟨-, -, -, rfl⟩ | ⟨-, -, d, -, -, rfl⟩ := elapseTime_next h
  · exact advance_timeThenOperation h
  · exact ⟨_, ⟨_, _, rfl, .passTime ..⟩, .inl rfl⟩
  · exact advance_timeThenOperation (s := s.setInputs (.elapse _ :: rest)) h
  · exact ⟨_, ⟨_, _, rfl, .passTime ..⟩, .inl rfl⟩
  · exact ⟨_, ⟨_, _, rfl, .passTime ..⟩, .inl rfl⟩

theorem step_timeThenOperation (h : step s = .next t) : s.TimeThenOperation t := by
  have op {i : Instr} {rest : List Input} (hi : s.block.inBurst = true → isHostMove i = false)
      (h : exec i (s.setInputs rest) = .next t) : s.TimeThenOperation t := ⟨_, ⟨_, rest, rfl, .refl _⟩, .inr ⟨i, hi, h⟩⟩
  have notBurst {P : Prop} (hfree : s.block.hostSuspended = false) (hburst : s.block.inBurst = true) : P :=
    absurd (hburst.symm.trans (Block.hostSuspended_eq_false.1 hfree).1) nofun
  obtain ⟨n, rest, -, h⟩ | ⟨rest, -, h⟩ | ⟨-, h⟩ | ⟨i, rest, -, hfree, h⟩ | ⟨r, rest, -, hfree, -, h⟩ | ⟨r, rest, -, hfree, -, h⟩ :=
    step_cases h
  · exact elapseTime_timeThenOperation h
  · exact advance_timeThenOperation (s := s.setInputs rest) h
  · exact advance_timeThenOperation h
  · exact op (fun hburst => Bool.eq_false_iff.2 fun hi => notBurst (hfree hi) hburst) h
  · exact op (notBurst hfree) h
  · exact op (notBurst hfree) h

end

/-- The lanes that are not active, and `activeMask` itself, are as they were. -/
def Block.SameForeign {w : Nat} (k k' : Block w) : Prop :=
  k'.activeMask = k.activeMask ∧ ∀ b : Lane, k.activeMask.getLsbD b = false → k'.port.getLsbD b = k.port.getLsbD b

theorem Block.SameForeign.refl {w : Nat} (k : Block w) : k.SameForeign k := ⟨rfl, fun _ _ => rfl⟩

theorem Block.SameForeign.trans {w : Nat} {k₁ k₂ k₃ : Block w} (h : k₁.SameForeign k₂) (h' : k₂.SameForeign k₃) :
    k₁.SameForeign k₃ := by
  obtain ⟨ha, hp⟩ := h
  obtain ⟨ha', hp'⟩ := h'
  exact ⟨ha'.trans ha, fun b hb => (hp' b (ha.symm ▸ hb)).trans (hp b hb)⟩

/-- The steps of the timer and the transmitter, FIRE included, drive active lanes only (R103). -/
theorem exec_sameForeign {i : Instr} {s t : State} (hi : isHostMove i = false ∨ i = .fire) (h : exec i s = .next t) :
    s.Moves Block.SameForeign t := by
  have part {i : Instr} {s t : State} (hi : isHostMove i = false) (h : exec i s = .next t) : s.Moves Block.SameForeign t := by
    cases i with
    | timerFire => exact execTimerFire_moves h (.refl _)
    | burstEnter => exact execBurstEnter_moves h (.refl _)
    | burstExit => exact burstStep_moves h (.refl _)
    | emitH => exact burstStep_moves h ⟨rfl, fun b hb => by simp [raiseLanes_bit, hb]⟩
    | emitM => exact burstStep_moves h ⟨rfl, fun b hb => by simp [keepLanes_bit, hb]⟩
    | emitL => exact burstStep_moves h ⟨rfl, fun b hb => by simp [dropLanes_bit, hb]⟩
    | _ => cases hi
  obtain hi | rfl := hi
  · exact part hi h
  · exact execFire_moves Block.SameForeign.refl Block.SameForeign.trans part h

/-- No operation changes the level of a lane that is not active before it. -/
theorem exec_foreign {i : Instr} {s t : State} (h : exec i s = .next t) {b : Lane} (hb : s.block.activeMask.getLsbD b = false) :
    t.block.port.getLsbD b = s.block.port.getLsbD b := by
  by_cases hi : isHostMove i = false ∨ i = .fire
  · obtain ⟨k, l, rfl, -, hport⟩ := exec_sameForeign hi h
    exact hport b hb
  · obtain ⟨hmove, hfire⟩ := not_or.1 hi
    obtain ⟨k, l, rfl, hport, -⟩ := exec_sameBurst (Bool.not_eq_false _ ▸ hmove) hfire h
    exact congrArg (BitVec.getLsbD · b) hport

end Sys2Proof.Machine

namespace Sys2Proof.Proofs
open Sys2Proof Sys2Proof.Machine

/-- Settles O32: time moves no lane, and the one operation of a step only those active before it. -/
theorem foreignLanesKeepTheirLevel : Obligations.ForeignLanesKeepTheirLevel := by
  unfold Obligations.ForeignLanesKeepTheirLevel
  intro s t hstep b hb
  obtain ⟨_, ⟨k, l, rfl, hk⟩, hop⟩ := step_timeThenOperation hstep
  have hactive : k.activeMask = s.block.activeMask := by rw [hk]
  have hport : k.port = s.block.port := by rw [hk]
  obtain rfl | ⟨i, -, h⟩ := hop
  · exact congrArg (BitVec.getLsbD · b) hport
  · exact (exec_foreign h (hactive.symm ▸ hb)).trans (congrArg (BitVec.getLsbD · b) hport)

/-- Settles O33: time writes nothing of the bank, and in a burst neither does the one operation of a step. -/
theorem burstFreezesTheBank : Obligations.BurstFreezesTheBank := by
  unfold Obligations.BurstFreezesTheBank
  intro p k l t hburst hstep
  obtain ⟨_, ⟨u, l', rfl, hu⟩, hop⟩ := step_timeThenOperation hstep
  have htime : k.SameBank u := by rw [hu]; exact .refl k
  obtain rfl | ⟨i, hi, h⟩ := hop
  · exact ⟨u, l', rfl, htime⟩
  · obtain ⟨k', l'', rfl, hk'⟩ := exec_sameBank (.inl (hi (by simpa [Block.inBurst] using hburst))) h
    exact ⟨k', l'', rfl, htime.trans hk'⟩

end Sys2Proof.Proofs
end

section
/-!
PROOF. What one step does with a stretch of time at the head of the schedule (R19, R86, R87, R138): it gives way to a firing that can be
accepted, runs up to a burst's next step or the timer's next firing, or passes in whole.
-/
namespace Sys2Proof.Machine

theorem Block.inBurst_iff {w : Nat} {k : Block w} : k.inBurst = true ↔ k.tx.state ≠ .idle := decide_eq_true_iff

theorem Block.not_acceptable_of_burst {w : Nat} {k : Block w} (hburst : k.inBurst = true) : ¬ k.interruptAcceptable = true :=
  fun hacc => Block.inBurst_iff.1 hburst (Block.interruptAcceptable_iff.1 hacc).1

/-- The wait for a step that is not late. -/
theorem Block.untilStep_of_le {w : Nat} {k : Block w} {t : Timing} (h : k.now ≤ k.stepTime t) :
    k.untilStep t = k.stepTime t - k.now := max_eq_left (sub_nonneg.2 h)

section
variable {w : Nat} {k : Block w} {tFrame n : Time}

/-- A timer that is not configured lets time move the clock only. -/
theorem Block.passTime_stopped (htimer : k.timerConfigured = false) : k.passTime tFrame n = { k with now := k.now + n } := by
  simp [Block.passTime_eq, htimer]

/-- A time short of the period moves the clock and the timer's phase only. -/
theorem Block.passTime_before_firing (htimer : k.timerConfigured = true) (hn : k.tmrCount + n < tFrame) :
    k.passTime tFrame n = { k with now := k.now + n, tmrCount := k.tmrCount + n } := by
  simp [Block.passTime_eq, htimer, not_le.2 hn]

/-- A timer that reaches its period has fired and starts the period again (R19, R86). -/
theorem Block.passTime_to_firing (htimer : k.timerConfigured = true) : k.passTime tFrame (tFrame - k.tmrCount) =
    { k with now := k.now + (tFrame - k.tmrCount), tmrCount := 0, tmrPending := true } := by
  simp [Block.passTime_eq, htimer]

end

/-- A firing that can be accepted is, before any time passes (R87, R109). -/
theorem advance_of_acceptable {s : State} (hacc : s.block.interruptAcceptable = true) : advance s = exec .burstEnter s := by
  have hidle : s.block.inBurst = false := Block.inBurst_eq_false.2 (Block.interruptAcceptable_iff.1 hacc).1
  have hawait : s.awaitStep = s := by simp [State.awaitStep, Block.awaitStep_idle hidle]
  simp [advance, Block.nextMove, hidle, hacc, hawait]

section
variable {p : Platform} {k : Block p.portW} {n : Time} {rest l : List Input}

theorem step_elapse (hn : 0 ≤ n) : step ⟨p, k, .elapse n :: rest⟩ = elapseTime n rest ⟨p, k, .elapse n :: rest⟩ := by
  simp [step, runInput, max_eq_left hn]

/-- A negative stretch of time passes as none. -/
theorem step_elapse_of_neg (hn : n < 0) : step ⟨p, k, .elapse n :: rest⟩ = elapseTime 0 rest ⟨p, k, .elapse n :: rest⟩ := by
  simp [step, runInput, max_eq_right hn.le]

theorem elapseTime_of_acceptable (hacc : k.interruptAcceptable = true) : elapseTime n rest ⟨p, k, l⟩ = exec .burstEnter ⟨p, k, l⟩ :=
  (if_pos hacc).trans (advance_of_acceptable hacc)

/-- Where no firing can be accepted, what is left of the schedule is set anew, whatever it was. -/
theorem elapseTime_congr_inputs (hacc : ¬ k.interruptAcceptable = true) (l' : List Input) :
    elapseTime n rest ⟨p, k, l⟩ = elapseTime n rest ⟨p, k, l'⟩ := (if_neg hacc).trans (if_neg hacc).symm

theorem elapseTime_before_step (hburst : k.inBurst = true) (hn : n < k.untilStep p.timing) :
    elapseTime n rest ⟨p, k, l⟩ = .next ⟨p, k.passTime p.timing.tFrame n, rest⟩ :=
  (if_neg (Block.not_acceptable_of_burst hburst)).trans ((if_pos hburst).trans (if_pos hn))

theorem elapseTime_reaching_step (hburst : k.inBurst = true) (hn : k.untilStep p.timing ≤ n) :
    elapseTime n rest ⟨p, k, l⟩ = advance ⟨p, k, .elapse (n - k.untilStep p.timing) :: rest⟩ :=
  (if_neg (Block.not_acceptable_of_burst hburst)).trans ((if_pos hburst).trans (if_neg (not_lt.2 hn)))

section
variable (hidle : k.tx.state = .idle) (hpend : k.tmrPending = false)
include hidle hpend

/-- With no firing ahead, time passes in whole. -/
theorem elapseTime_stopped (htimer : k.timerConfigured = false) :
    elapseTime n rest ⟨p, k, l⟩ = .next ⟨p, { k with now := k.now + n }, rest⟩ := by
  obtain ⟨hnotBurst, hacc⟩ := Block.hostSuspended_eq_false.1 (Block.hostSuspended_of_quiet hidle hpend)
  simp [elapseTime, hnotBurst, hacc, Block.untilFiring, htimer, State.passTime, Block.passTime_stopped htimer]

/-- Time below the period passes in whole. -/
theorem elapseTime_before_firing (htimer : k.timerConfigured = true) (hn : k.tmrCount + n < p.timing.tFrame) :
    elapseTime n rest ⟨p, k, l⟩ = .next ⟨p, { k with now := k.now + n, tmrCount := k.tmrCount + n }, rest⟩ := by
  obtain ⟨hnotBurst, hacc⟩ := Block.hostSuspended_eq_false.1 (Block.hostSuspended_of_quiet hidle hpend)
  have hwait : n < max (p.timing.tFrame - k.tmrCount) 0 := lt_max_of_lt_left (lt_sub_iff_add_lt'.2 hn)
  simp only [elapseTime, hnotBurst, hacc, Block.untilFiring, htimer, if_true, if_pos hwait, Bool.false_eq_true, if_false,
    State.passTime, State.setInputs, Block.passTime_before_firing htimer hn]

/-- Time that reaches the period passes up to the firing (R86). -/
theorem elapseTime_reaching_firing (htimer : k.timerConfigured = true) (hphase : k.tmrCount < p.timing.tFrame)
    (hn : p.timing.tFrame ≤ k.tmrCount + n) : elapseTime n rest ⟨p, k, l⟩ =
      .next ⟨p, { k with now := k.now + (p.timing.tFrame - k.tmrCount), tmrCount := 0, tmrPending := true },
        .elapse (k.tmrCount + n - p.timing.tFrame) :: rest⟩ := by
  obtain ⟨hnotBurst, hacc⟩ := Block.hostSuspended_eq_false.1 (Block.hostSuspended_of_quiet hidle hpend)
  have hwait : max (p.timing.tFrame - k.tmrCount) 0 = p.timing.tFrame - k.tmrCount := max_eq_left (sub_nonneg.2 hphase.le)
  have hreach : ¬ n < p.timing.tFrame - k.tmrCount := not_lt.2 (sub_le_iff_le_add'.2 hn)
  have hleft : n - (p.timing.tFrame - k.tmrCount) = k.tmrCount + n - p.timing.tFrame := by ring
  simp only [elapseTime, hnotBurst, hacc, Block.untilFiring, htimer, hwait, if_true, if_neg hreach, Bool.false_eq_true, if_false,
    State.passTime, State.setInputs, Block.passTime_to_firing htimer, hleft]

end

end

end Sys2Proof.Machine

namespace Sys2Proof.Proofs
open Sys2Proof Sys2Proof.Machine

/-- Settles O28: by what a stretch of time meets first. -/
theorem timerFiresOncePerPeriod : Obligations.TimerFiresOncePerPeriod := by
  unfold Obligations.TimerFiresOncePerPeriod
  intro p k n rest
  refine ⟨fun hidle hie hpend => ?accept, fun hn hnot => ?negative, fun hn hidle hpend => ⟨fun htimer => ?stopped,
    fun htimer hlt => ?below, fun htimer hphase hle => ?reach⟩, fun hn hburst => ⟨fun hlt htimer => ?beforeStep,
    fun hnow hle => ?reachStep⟩⟩
  case accept => exact elapseTime_of_acceptable (Block.interruptAcceptable_iff.2 ⟨hidle, hie, hpend⟩)
  case negative =>
    rw [step_elapse_of_neg hn, step_elapse le_rfl]
    exact elapseTime_congr_inputs (fun hacc => hnot (Block.interruptAcceptable_iff.1 hacc)) _
  case stopped => exact (step_elapse hn).trans (elapseTime_stopped hidle hpend htimer)
  case below => exact (step_elapse hn).trans (elapseTime_before_firing hidle hpend htimer hlt)
  case reach => exact (step_elapse hn).trans (elapseTime_reaching_firing hidle hpend htimer hphase hle)
  case beforeStep =>
    have hwait : n < k.untilStep p.timing := lt_max_of_lt_left (lt_sub_iff_add_lt'.2 hlt)
    rw [step_elapse hn, elapseTime_before_step (Block.inBurst_iff.2 hburst) hwait]
    simp only [Block.passTime_eq, htimer, if_true, Bool.true_and, phaseOf]
  case reachStep =>
    have hwait : k.untilStep p.timing = k.stepTime p.timing - k.now := Block.untilStep_of_le hnow
    have hleft : n - k.untilStep p.timing = k.now + n - k.stepTime p.timing := by
      rw [hwait]
      ring
    have hreach : k.untilStep p.timing ≤ n := by linarith
    rw [step_elapse hn, elapseTime_reaching_step (Block.inBurst_iff.2 hburst) hreach, hleft]
    rfl

end Sys2Proof.Proofs
end

section
/-!
PROOF. The timed burst is the untimed one (R87, R88): each step of the transmitter comes when its time is reached, and does then what it
does in FIRE, since a port write and the passing of time write different fields.
-/
namespace Sys2Proof.Machine

/-- The three port writes of a slot (R91 to R93). -/
def isPortWrite : Instr → Bool
  | .emitH | .emitM | .emitL => true
  | _ => false

/-- The port writes of `n` slots (R59, R94). -/
def slotWrites (n : Nat) : List Instr := (List.replicate n [.emitH, .emitM, .emitL]).flatten

theorem isPortWrite_of_mem_slotWrites {n : Nat} {i : Instr} (h : i ∈ slotWrites n) : isPortWrite i = true := by
  obtain ⟨l, hl, hi⟩ := List.mem_flatten.1 h
  obtain rfl := List.eq_of_mem_replicate hl
  fin_cases hi <;> rfl

theorem runInstrs_slotWrites (n : Nat) (s : State) : runInstrs (slotWrites n) s = emitSlots n s := by
  have slot (s : State) : runInstrs [.emitH, .emitM, .emitL] s = emitSlot s := by
    rw [runInstrs_cons]
    refine congrArg _ (funext fun s₁ => ?_)
    rw [runInstrs_cons]
    exact congrArg _ (funext fun s₂ => runInstrs_singleton _ s₂)
  induction n generalizing s with
  | zero => rfl
  | succ n ih =>
    rw [slotWrites, List.replicate_succ, List.flatten_cons, runInstrs_append, slot]
    exact congrArg _ (funext ih)

/-! ### The untimed burst in its parts -/

/-- The block when the 48 port writes of a burst are done (R94). -/
def Block.written {w : Nat} (k : Block w) (t : Timing) : Block w :=
  k.enterInterrupt.emitted ((List.finRange 16).flatMap (k.enterInterrupt.slotEvents t)) .atExit

section
variable {p : Platform} {k : Block p.portW} (l : List Input)

theorem runInstrs_slotWrites_burst : runInstrs (slotWrites 16) ⟨p, k.enterInterrupt, l⟩ = .next ⟨p, k.written p.timing, l⟩ :=
  (runInstrs_slotWrites 16 _).trans (emitSlots_eq (s := ⟨p, k.enterInterrupt, l⟩) (n := 15) (i := 0) rfl rfl (.inl rfl))

theorem exec_burstExit_written (hie : k.ie = true) : exec .burstExit ⟨p, k.written p.timing, l⟩ = .next ⟨p, k.fired p.timing, l⟩ := by
  refine burstStep_next.2 ⟨rfl, ?_⟩
  simp only [Block.fired, Block.written, Block.emitted, Block.leaveInterrupt, burstTrace_eq_flatMap, ← hie]
  rfl

/-- FIRE's expansion (R59) reaches FIRE's state. -/
theorem runInstrs_expansion_fire (hidle : k.tx.state = .idle) (hie : k.ie = true) (htimer : k.timerConfigured = true) :
    runInstrs (expansion .fire) ⟨p, k, l⟩ = .next ⟨p, k.fired p.timing, l⟩ := by
  have hacc : k.raiseTimer.interruptAcceptable = true := Block.interruptAcceptable_iff.2 ⟨hidle, hie, rfl⟩
  have hfire : exec .timerFire ⟨p, k, l⟩ = .next ⟨p, k.raiseTimer, l⟩ := execTimerFire_next.2 ⟨htimer, rfl⟩
  have henter : exec .burstEnter ⟨p, k.raiseTimer, l⟩ = .next ⟨p, k.raiseTimer.enterInterrupt, l⟩ := execBurstEnter_next.2 ⟨hacc, rfl⟩
  show runInstrs (.timerFire :: .burstEnter :: (slotWrites 16 ++ [.burstExit])) _ = _
  rw [runInstrs_cons_of_next hfire, runInstrs_cons_of_next henter, runInstrs_append, runInstrs_slotWrites_burst, Result.andThen_of_next,
    runInstrs_singleton]
  exact exec_burstExit_written (k := k.raiseTimer) l hie

end

/-! ### A step of the transmitter and the passing of time -/

section
variable {w : Nat} (k : Block w) (tFrame n : Time)

theorem Block.passTime_portWrite (t : Timing) (i : Slot) (ph : Phase) (v : BitVec w) :
    (k.passTime tFrame n).portWrite t i ph v = (k.portWrite t i ph v).passTime tFrame n := by
  simp only [Block.passTime_eq, Block.portWrite]

theorem Block.passTime_setTx (tx : Tx) : (k.passTime tFrame n).setTx tx = (k.setTx tx).passTime tFrame n := by
  simp only [Block.passTime_eq, Block.setTx]

theorem Block.passTime_leaveInterrupt : (k.passTime tFrame n).leaveInterrupt = k.leaveInterrupt.passTime tFrame n := by
  simp only [Block.passTime_eq, Block.leaveInterrupt]

theorem Block.passTime_tlRead (i : Slot) : (k.passTime tFrame n).tlRead i = k.tlRead i := by simp [Block.tlRead]

theorem Block.passTime_stepTime (t : Timing) : (k.passTime tFrame n).stepTime t = k.stepTime t := by simp [Block.stepTime]

/-- Before its first firing, no time passing changes nothing. -/
theorem Block.passTime_zero {k : Block w} (h : k.tmrCount < tFrame) : k.passTime tFrame 0 = k := by
  simp [Block.passTime_eq, not_le.2 h]

end

/-- A part of the wait for the next step shortens it by as much. -/
theorem Block.untilStep_passTime {w : Nat} {k : Block w} {t : Timing} (tFrame : Time) {o : Time} (ho : 0 ≤ o) (hle : o ≤ k.untilStep t) :
    (k.passTime tFrame o).untilStep t = k.untilStep t - o := by
  simp only [Block.untilStep, Block.passTime_stepTime, Block.passTime_now] at hle ⊢
  obtain hlate | hahead := le_total (k.stepTime t - k.now) 0
  · rw [max_eq_right hlate] at hle ⊢
    rw [max_eq_right (by linarith)]
    linarith
  · rw [max_eq_left hahead] at hle ⊢
    rw [max_eq_left (by linarith)]
    ring

section
variable {p : Platform} {k k' : Block p.portW} {i : Instr} {l : List Input}

/-- EMIT_H is carried out from `Armed` or in phase H (R91). -/
theorem due_of_execEmitH {s t : State} (h : execEmitH s = .next t) :
    s.block.tx.state = .armed ∨ s.block.tx.state = .emit ∧ s.block.tx.phase = .h := by
  simpa [Tx.emitting_iff] using (burstStep_next.1 h).1

/-- A step of the transmitter that is carried out was the one due (R89). -/
theorem nextStep_of_exec (hi : isPortWrite i = true ∨ i = .burstExit) (h : exec i ⟨p, k, l⟩ = .next ⟨p, k', l⟩) :
    k.inBurst = true ∧ k.tx.nextStep = some i := by
  rw [Block.inBurst_iff]
  obtain hi | rfl := hi
  · cases i with
    | emitH =>
      obtain harmed | ⟨hemit, hph⟩ : k.tx.state = .armed ∨ k.tx.state = .emit ∧ k.tx.phase = .h := due_of_execEmitH h
      · simp [Tx.nextStep, harmed]
      · simp [Tx.nextStep, hemit, hph]
    | emitM | emitL =>
      obtain ⟨hemit, hph⟩ : k.tx.state = .emit ∧ k.tx.phase = _ := Tx.emitting_iff.1 (burstStep_next.1 h).1
      simp [Tx.nextStep, hemit, hph]
    | _ => cases hi
  · obtain ⟨hdue, -⟩ := burstStep_next.1 h
    obtain ⟨hemit, hph⟩ : k.tx.state = .emit ∧ k.tx.phase = .x := Tx.emitting_iff.1 ((Bool.and_eq_true _ _).mp hdue).1
    simp [Tx.nextStep, hemit, hph]

/-- A step of the transmitter does at any time, and with any schedule, what it does at once. -/
theorem exec_passTime (hi : isPortWrite i = true ∨ i = .burstExit) (h : exec i ⟨p, k, l⟩ = .next ⟨p, k', l⟩) (tFrame n : Time)
    (l' : List Input) : exec i ⟨p, k.passTime tFrame n, l'⟩ = .next ⟨p, k'.passTime tFrame n, l'⟩ := by
  have commute {k₂ : Block p.portW} {due : Bool} (h : burstStep ⟨p, k, l⟩ due k₂ = .next ⟨p, k', l⟩) :
      burstStep ⟨p, k.passTime tFrame n, l'⟩ due (k₂.passTime tFrame n) = .next ⟨p, k'.passTime tFrame n, l'⟩ := by
    obtain ⟨hdue, e⟩ := burstStep_next.1 h
    cases e
    exact burstStep_next.2 ⟨hdue, rfl⟩
  obtain hi | rfl := hi
  · cases i with
    | emitH | emitM | emitL =>
      have hlater := commute h
      simpa only [exec, execEmitH, execEmitM, execEmitL, Block.passTime_portWrite, Block.passTime_setTx, Block.passTime_tlRead,
        Block.passTime_tx, Block.passTime_port, Block.passTime_activeMask] using hlater
    | _ => cases hi
  · have hlater := commute h
    simpa only [exec, execBurstExit, Block.passTime_leaveInterrupt, Block.passTime_tx] using hlater

/-- A port write that moves the sequencer to a step at a later time makes the wait no shorter. -/
theorem Block.untilStep_le_portWrite {j : Slot} {ph : Phase} {v : BitVec p.portW} {tx : Tx} (hemit : tx.state = .emit)
    (hlater : k.stepTime p.timing ≤ k.burstStart + p.timing.eventOffset tx.slot tx.phase) :
    k.untilStep p.timing ≤ ((k.portWrite p.timing j ph v).setTx tx).untilStep p.timing := by
  unfold Block.untilStep
  rw [Block.stepTime_emit (k := (k.portWrite p.timing j ph v).setTx tx) hemit]
  exact max_le_max_right 0 (sub_le_sub_right hlater k.now)

/-- The steps of a burst come in the order of their times (R87, R102). -/
theorem untilStep_le_of_portWrite (hok : p.timing.ok = true) (hi : isPortWrite i = true) (h : exec i ⟨p, k, l⟩ = .next ⟨p, k', l⟩) :
    k.untilStep p.timing ≤ k'.untilStep p.timing := by
  cases i with
  | emitH =>
    have hdue : k.tx.state = .armed ∨ k.tx.state = .emit ∧ k.tx.phase = .h := due_of_execEmitH h
    obtain ⟨-, e⟩ := burstStep_next.1 h
    cases e
    refine Block.untilStep_le_portWrite rfl ?_
    obtain harmed | ⟨hemit, hph⟩ := hdue
    · rw [Block.stepTime_armed harmed, Tx.emitSlot, if_pos harmed]
      exact add_le_add_right (Timing.eventOffset_h_le_m hok 0) _
    · rw [Block.stepTime_emit hemit, hph, Tx.emitSlot, if_neg (by simp [hemit])]
      exact add_le_add_right (Timing.eventOffset_h_le_m hok _) _
  | emitM =>
    obtain ⟨hdue, e⟩ := burstStep_next.1 h
    cases e
    obtain ⟨hemit, hph⟩ := Tx.emitting_iff.1 hdue
    refine Block.untilStep_le_portWrite hemit ?_
    rw [Block.stepTime_emit hemit, hph]
    exact add_le_add_right (Timing.eventOffset_m_le_l hok _) _
  | emitL =>
    obtain ⟨hdue, e⟩ := burstStep_next.1 h
    cases e
    obtain ⟨hemit, hph⟩ := Tx.emitting_iff.1 hdue
    by_cases hslot : k.tx.slot < 15
    · have hnext : k.tx.slot.val + 1 = (k.tx.slot + 1).val := (Fin.val_add_one_of_lt hslot).symm
      simp only [if_pos hslot]
      refine Block.untilStep_le_portWrite hemit ?_
      rw [Block.stepTime_emit hemit, hph]
      exact add_le_add_right (Timing.eventOffset_l_le_next_h hok hnext) _
    · have hlast : k.tx.slot = 15 := le_antisymm (Fin.le_last _) (not_lt.1 hslot)
      simp only [if_neg hslot]
      refine Block.untilStep_le_portWrite hemit ?_
      rw [Block.stepTime_emit hemit, hph, hlast]
      exact add_le_add_right (Timing.eventOffset_last_l_le_x hok) _
  | _ => cases hi

end

/-! ### The machine by itself -/

/-- What is on a burst's schedule when a time `o` has passed: nothing, or the rest of one stretch of time and what comes after. -/
def burstSchedule : Option (Time × List Input) → Time → List Input
  | none, _ => []
  | some (n, rest), o => .elapse (n - o) :: rest

/-- A burst's schedule lets at least a time `d` pass; an empty one does not limit the steps of a burst. -/
def BurstScheduleLasts (x : Option (Time × List Input)) (d : Time) : Prop := ∀ n rest, x = some (n, rest) → d ≤ n

theorem BurstScheduleLasts.of_le {x : Option (Time × List Input)} {d d' : Time} (h : BurstScheduleLasts x d) (hle : d' ≤ d) :
    BurstScheduleLasts x d' :=
  fun n rest hx => hle.trans (h n rest hx)

theorem Timing.burst_and_frame_pos {t : Timing} (hok : t.ok = true) : 0 < t.burstDuration ∧ 0 < t.tFrame := by
  obtain ⟨hshort, hmid, hbit, hframe, hentry, hexit⟩ := Timing.ok_iff.1 hok
  have hburst : 0 < t.burstDuration := by
    unfold Timing.burstDuration
    linarith
  exact ⟨hburst, hburst.trans_le hframe⟩

/-- The last step of a run. -/
theorem run_succ_of_run {n : Nat} {s t u : State} (h : Host.Core.run Sys2Proof.core n s = .next t) (hstep : step t = .next u) :
    Host.Core.run Sys2Proof.core (n + 1) s = .next u := by
  induction n generalizing s with
  | zero =>
    obtain rfl : s = t := Host.Outcome.next.inj h
    exact run_succ_of_step hstep
  | succ n ih =>
    have hcore : Sys2Proof.core.step s = step s := rfl
    cases hfirst : step s with
    | next v => exact (run_succ_of_step hfirst).trans (ih ((run_succ_of_step hfirst).symm.trans h))
    | fault e => simp [Host.Core.run, hcore, hfirst] at h
    | refused e => simp [Host.Core.run, hcore, hfirst] at h

section
variable {p : Platform} {k k' : Block p.portW} {i : Instr} {l : List Input} {x : Option (Time × List Input)} {o : Time}

/-- With a time `o` passed that does not reach beyond the next step of a burst, the machine takes that step when its time is reached. -/
theorem step_burst (hok : p.timing.ok = true) (hi : isPortWrite i = true ∨ i = .burstExit) (h : exec i ⟨p, k, l⟩ = .next ⟨p, k', l⟩)
    (ho : 0 ≤ o) (hle : o ≤ k.untilStep p.timing) (hx : BurstScheduleLasts x (k.untilStep p.timing)) :
    step ⟨p, k.passTime p.timing.tFrame o, burstSchedule x o⟩ =
      .next ⟨p, k'.passTime p.timing.tFrame (k.untilStep p.timing), burstSchedule x (k.untilStep p.timing)⟩ := by
  obtain ⟨hburst, hnext⟩ := nextStep_of_exec hi h
  have hburst' : (k.passTime p.timing.tFrame o).inBurst = true := by simpa [Block.inBurst] using hburst
  have hwait := Block.untilStep_passTime p.timing.tFrame ho hle
  have hadvance (l' : List Input) : advance ⟨p, k.passTime p.timing.tFrame o, l'⟩ =
      .next ⟨p, k'.passTime p.timing.tFrame (k.untilStep p.timing), l'⟩ := by
    have hmove : (k.passTime p.timing.tFrame o).nextMove = some i := by simp [Block.nextMove, hburst', hnext]
    have hawait : (k.passTime p.timing.tFrame o).awaitStep p.timing = k.passTime p.timing.tFrame (k.untilStep p.timing) := by
      rw [Block.awaitStep_burst hburst', hwait,
        Block.passTime_passTime k (Timing.burst_and_frame_pos hok).2 (sub_nonneg.2 hle), add_sub_cancel]
    simp only [advance, hmove, State.awaitStep_mk, hawait]
    exact exec_passTime hi h _ _ l'
  cases x with
  | none => exact hadvance []
  | some y =>
    obtain ⟨n, rest⟩ := y
    have hn : k.untilStep p.timing ≤ n := hx n rest rfl
    have hleft : n - o - (k.untilStep p.timing - o) = n - k.untilStep p.timing := by ring
    refine (step_elapse (sub_nonneg.2 (hle.trans hn))).trans ?_
    rw [elapseTime_reaching_step hburst' (by rw [hwait]; linarith), hwait, hleft]
    exact hadvance _

/-- The port writes of a burst one after the other, each at its time: what they do at once, and a time passed that does not reach beyond
the next step. -/
theorem run_portWrites (hok : p.timing.ok = true) {is : List Instr} (his : ∀ i ∈ is, isPortWrite i = true)
    (h : runInstrs is ⟨p, k, l⟩ = .next ⟨p, k', l⟩) (hx : BurstScheduleLasts x (k'.untilStep p.timing)) :
    ∃ o, 0 ≤ o ∧ o ≤ k'.untilStep p.timing ∧
      Host.Core.run Sys2Proof.core is.length (State.mk p (k.passTime p.timing.tFrame 0) (burstSchedule x 0)) =
        .next (State.mk p (k'.passTime p.timing.tFrame o) (burstSchedule x o)) := by
  induction is using List.reverseRecOn generalizing k' with
  | nil =>
    cases h
    exact ⟨0, le_rfl, Block.untilStep_nonneg k _, rfl⟩
  | append_singleton is i ih =>
    rw [runInstrs_append] at h
    obtain ⟨⟨p', k₁, l'⟩, h₁, hi⟩ := Result.andThen_next.1 h
    rw [runInstrs_singleton] at hi
    obtain ⟨k₂, e⟩ := exec_next hi
    cases e
    have hwrite : isPortWrite i = true := his i (by simp)
    have hlater := untilStep_le_of_portWrite hok hwrite hi
    obtain ⟨o, ho, hle, hrun⟩ := ih (fun j hj => his j (by simp [hj])) h₁ (hx.of_le hlater)
    refine ⟨_, Block.untilStep_nonneg k₁ _, hlater, ?_⟩
    rw [List.length_append]
    exact run_succ_of_run hrun (step_burst hok (.inl hwrite) hi ho hle (hx.of_le hlater))

/-- In phase X the wait, counted from the burst's start, is for its end (R87). -/
theorem Block.untilStep_written (hok : p.timing.ok = true) : (k.written p.timing).untilStep p.timing = p.timing.burstDuration := by
  have hstep : (k.written p.timing).stepTime p.timing = k.now + p.timing.burstDuration := rfl
  have hnow : (k.written p.timing).now = k.now := rfl
  rw [Block.untilStep, hstep, hnow, add_sub_cancel_left, max_eq_left (Timing.burst_and_frame_pos hok).1.le]

/-- From a firing that can be accepted BURST_ENTER, 48 port writes and BURST_EXIT reach FIRE's state, T_BURST later (R87, R88). -/
theorem run_burst (hok : p.timing.ok = true) (hacc : k.interruptAcceptable = true) (hphase : k.tmrCount < p.timing.tFrame)
    (hx : BurstScheduleLasts x p.timing.burstDuration) : Host.Core.run Sys2Proof.core 50 (State.mk p k (burstSchedule x 0)) =
      .next (State.mk p ((k.fired p.timing).passTime p.timing.tFrame p.timing.burstDuration)
        (burstSchedule x p.timing.burstDuration)) := by
  obtain ⟨hidle, hie, hpend⟩ := Block.interruptAcceptable_iff.1 hacc
  have hend := Block.untilStep_written (k := k) hok
  have henter : step ⟨p, k, burstSchedule x 0⟩ = .next ⟨p, k.enterInterrupt, burstSchedule x 0⟩ := by
    have hexec : exec .burstEnter ⟨p, k, burstSchedule x 0⟩ = .next ⟨p, k.enterInterrupt, burstSchedule x 0⟩ :=
      execBurstEnter_next.2 ⟨hacc, rfl⟩
    cases x with
    | none => exact (advance_of_acceptable hacc).trans hexec
    | some y => exact (elapseTime_of_acceptable hacc).trans hexec
  obtain ⟨o, ho, hle, hwrites⟩ := run_portWrites (x := x) hok (fun i => isPortWrite_of_mem_slotWrites)
    (runInstrs_slotWrites_burst (k := k) []) (hend ▸ hx)
  have hexit := step_burst hok (.inr rfl) (exec_burstExit_written [] hie) ho hle (hend ▸ hx)
  rw [hend] at hexit
  rw [Block.passTime_zero p.timing.tFrame (k := k.enterInterrupt) hphase] at hwrites
  exact (run_succ_of_step henter).trans (run_succ_of_run hwrites hexit)

/-- With enough time on the schedule one step more lets the timer reach its period, and the burst is FIRE's from there (R86, R87). -/
theorem run_firing_burst {n : Time} {rest : List Input} (hok : p.timing.ok = true) (hidle : k.tx.state = .idle) (hie : k.ie = true)
    (htimer : k.timerConfigured = true) (hpend : k.tmrPending = false) (hphase : k.tmrCount < p.timing.tFrame)
    (hn : p.timing.tFrame + p.timing.burstDuration ≤ k.tmrCount + n) :
    Host.Core.run Sys2Proof.core 51 (State.mk p k (.elapse n :: rest)) = .next (State.mk p
      ((Block.fired { k with now := k.now + (p.timing.tFrame - k.tmrCount), tmrCount := 0 } p.timing).passTime p.timing.tFrame
        p.timing.burstDuration)
      (.elapse (k.tmrCount + n - p.timing.tFrame - p.timing.burstDuration) :: rest)) := by
  obtain ⟨hburst, hframe⟩ := Timing.burst_and_frame_pos hok
  have hreach : p.timing.tFrame ≤ k.tmrCount + n := by linarith
  have hlasts : BurstScheduleLasts (some (k.tmrCount + n - p.timing.tFrame, rest)) p.timing.burstDuration := by
    rintro _ _ ⟨⟩
    linarith
  have hsched : burstSchedule (some (k.tmrCount + n - p.timing.tFrame, rest)) 0 = .elapse (k.tmrCount + n - p.timing.tFrame) :: rest := by
    simp [burstSchedule]
  have hfiring := (step_elapse (by linarith)).trans (elapseTime_reaching_firing (rest := rest) hidle hpend htimer hphase hreach)
  rw [← hsched] at hfiring
  exact (run_succ_of_step hfiring).trans (run_burst hok (Block.interruptAcceptable_iff.2 ⟨hidle, hie, rfl⟩) hframe hlasts)

end

end Sys2Proof.Machine

namespace Sys2Proof.Proofs
open Sys2Proof Sys2Proof.Machine

/-- Settles O40: a firing pending is accepted at once, and one still to come when the timer reaches its period. -/
theorem fiftyStepsMakeTheBurstOfFire : Obligations.FiftyStepsMakeTheBurstOfFire := by
  unfold Obligations.FiftyStepsMakeTheBurstOfFire
  intro p k hok hidle hie htimer hphase
  have hfire : exec .fire ⟨p, k, []⟩ = .next ⟨p, k.fired p.timing, []⟩ := exec_fire_eq hidle hie htimer
  refine ⟨(runInstrs_expansion_fire [] hidle hie htimer).trans hfire.symm, fun hpend => ⟨_, hfire, ?pending⟩,
    fun hpend n rest hn => ⟨_, exec_fire_eq hidle hie htimer, run_firing_burst hok hidle hie htimer hpend hphase hn, fun hshort => ?next⟩⟩
  case pending => exact run_burst (x := none) hok (Block.interruptAcceptable_iff.2 ⟨hidle, hie, hpend⟩) hphase nofun
  case next =>
    have hbelow : ¬ p.timing.tFrame ≤ p.timing.burstDuration := not_le.2 hshort
    simp [Block.fired, htimer, hbelow]

end Sys2Proof.Proofs
end

section
/-!
PROOF. The two contexts against each other: each writes its own state (R115, R37), a host operation completes or is refused by the host's
state alone and not by its operand (R105, R106, R70, R85), and the interrupt goes before the host and before time (R109, R87).
-/
namespace Sys2Proof.Machine

/-! ### What each context writes -/

/-- The part of the block that only the passing of time writes (R19, R87). -/
def Block.SameClock {w : Nat} (k k' : Block w) : Prop := k'.tmrCount = k.tmrCount ∧ k'.now = k.now

theorem Block.SameClock.refl {w : Nat} (k : Block w) : k.SameClock k := ⟨rfl, rfl⟩

theorem Block.SameClock.trans {w : Nat} {k₁ k₂ k₃ : Block w} (h : k₁.SameClock k₂) (h' : k₂.SameClock k₃) : k₁.SameClock k₃ :=
  ⟨h'.1.trans h.1, h'.2.trans h.2⟩

/-- A move to a known block is the relation between the two blocks. -/
theorem State.moves_mk_iff {p : Platform} {k k' : Block p.portW} {l l' : List Input} {R : Block p.portW → Block p.portW → Prop} :
    (State.mk p k l).Moves R ⟨p, k', l'⟩ ↔ R k k' := by
  refine ⟨fun h => ?_, fun h => ⟨k', l', rfl, h⟩⟩
  obtain ⟨_, _, e, h⟩ := h
  cases e
  exact h

/-- The steps of the interrupt context, FIRE with them, as the list of them (R115). -/
theorem not_isHostMove_or_fire_iff (i : Instr) :
    isHostMove i = false ∨ i = .fire ↔ i ∈ [Instr.timerFire, .burstEnter, .emitH, .emitM, .emitL, .burstExit, .fire] := by
  cases i <;> simp [isHostMove]

/-- No operation moves the clock or the timer's phase. -/
theorem exec_sameClock {i : Instr} {s t : State} (h : exec i s = .next t) : s.Moves Block.SameClock t := by
  have part {i : Instr} {s t : State} (hi : isHostMove i = false) (h : exec i s = .next t) : s.Moves Block.SameClock t := by
    cases i with
    | timerFire => exact execTimerFire_moves h (.refl _)
    | burstEnter => exact execBurstEnter_moves h (.refl _)
    | emitH | emitM | emitL | burstExit => exact burstStep_moves h (.refl _)
    | _ => cases hi
  by_cases hfire : i = .fire
  · subst hfire
    exact execFire_moves Block.SameClock.refl Block.SameClock.trans part h
  · cases hi : isHostMove i
    · exact part hi h
    · obtain ⟨k, l, rfl, -, -, -, -, -, -, -, hclock⟩ := exec_sameBurst hi hfire h
      exact ⟨k, l, rfl, hclock⟩

/-! ### The interrupt before the host -/

section
variable {s : State} {x : Input} {rest : List Input}

/-- While the host takes no step, an item that waits for it lets the agent whose turn it is move (R85, R109). -/
theorem step_of_hostSuspended (hin : s.inputs = x :: rest) (hx : x.waitsForHost = true) (hsus : s.block.hostSuspended = true) :
    step s = advance s := by
  cases x with
  | line i => simp [step, runInput, hin, hsus, show isHostMove i = true from hx]
  | request r => exact step_of_busy (.inr (.inl ⟨r, hin⟩)) (by simp [hsus])
  | requestStepwise r => exact step_of_busy (.inr (.inr ⟨r, hin⟩)) (by simp [hsus])
  | elapse _ | advance => cases hx

/-- A firing that can be accepted goes before a step of the host and before any time passes (R87, R109). -/
theorem step_of_acceptable (hin : s.inputs = x :: rest) (hx : x.waitsForHost = true ∨ ∃ n, x = .elapse n)
    (hacc : s.block.interruptAcceptable = true) : step s = exec .burstEnter s := by
  obtain hx | ⟨n, rfl⟩ := hx
  · exact (step_of_hostSuspended hin hx (by simp [Block.hostSuspended, hacc])).trans (advance_of_acceptable hacc)
  · have helapse : step s = elapseTime (max n 0) rest s := by simp [step, runInput, hin]
    exact helapse.trans (elapseTime_of_acceptable hacc)

/-- In a burst a step of the host waits for the step the sequencer stands at, which comes at its time (R38 (c), R85, R87). -/
theorem step_of_nextStep {i : Instr} (hin : s.inputs = x :: rest) (hx : x.waitsForHost = true) (hburst : s.block.tx.state ≠ .idle)
    (hnext : s.block.tx.nextStep = some i) : step s = exec i s.awaitStep := by
  have hb : s.block.inBurst = true := Block.inBurst_iff.2 hburst
  rw [step_of_hostSuspended hin hx (by simp [Block.hostSuspended, hb])]
  simp [advance, Block.nextMove, hb, hnext]

end

/-- Awaiting a burst's next step brings the clock to that step's time (R87). -/
theorem Block.awaitStep_now {w : Nat} {k : Block w} {t : Timing} (hburst : k.tx.state ≠ .idle) (h : k.now ≤ k.stepTime t) :
    (k.awaitStep t).now = k.stepTime t := by
  rw [Block.awaitStep_burst (Block.inBurst_iff.2 hburst), Block.passTime_now, Block.untilStep_of_le h, add_sub_cancel]

/-! ### A host that is not ready -/

/-- Whether and why a new operation is refused depends on the host only: on the burst, or else on the operation in progress (R70, R85). -/
theorem hostOperation_refused {s : State} (h : ¬ s.block.HostReady) :
    ∃ e : Refusal, (e = .burstInProgress ∨ e = .operationInProgress) ∧
      ∀ k : Block s.platform.portW, hostOperation s k = .refused e := by
  by_cases hidle : s.block.tx.state = .idle
  · exact ⟨_, .inr rfl, fun _ => hostOperation_of_operation hidle fun hop => h ⟨hidle, hop⟩⟩
  · exact ⟨_, .inl rfl, fun _ => hostStep_of_burst hidle⟩

end Sys2Proof.Machine

namespace Sys2Proof.Proofs
open Sys2Proof Sys2Proof.Machine

/-- Settles O34: the write sets of the two contexts, on the one block the operation answers. -/
theorem contextsWriteTheirOwnState : Obligations.ContextsWriteTheirOwnState := by
  unfold Obligations.ContextsWriteTheirOwnState
  intro i p k l t h
  obtain ⟨k', rfl⟩ := exec_next h
  obtain ⟨hphase, hnow⟩ := State.moves_mk_iff.1 (exec_sameClock h)
  rw [← not_isHostMove_or_fire_iff]
  refine ⟨k', rfl, hphase, hnow, fun hi => ?foreground, fun hi => ?interrupt⟩
  case foreground =>
    obtain ⟨hmove, hfire⟩ := not_or.1 hi
    obtain ⟨hport, hie, hpend, htx, htrace, hcount, hstart, -⟩ :=
      State.moves_mk_iff.1 (exec_sameBurst (Bool.not_eq_false _ ▸ hmove) hfire h)
    exact ⟨hport, hie, hpend, htx, htrace, hcount, hstart⟩
  case interrupt => exact State.moves_mk_iff.1 (exec_sameBank hi h)

/-- Settles O21: after the return interrupts are enabled and the sequencer is idle, so that a pending firing can be accepted. -/
theorem burstExitReturns : Obligations.BurstExitReturns := by
  unfold Obligations.BurstExitReturns
  intro p k l hemit hslot hphase
  refine ⟨burstStep_next.2 ⟨?_, rfl⟩, fun hpend x rest hin hx => ?_⟩
  · simp [Tx.emitting_iff, hemit, hslot, hphase]
  · exact step_of_acceptable hin hx (Block.interruptAcceptable_iff.2 ⟨rfl, rfl, hpend⟩)

/-- Settles O24: all four are host operations, which look at the host and not at their operand. -/
theorem noOperandIsRefused : Obligations.NoOperandIsRefused := by
  unfold Obligations.NoOperandIsRefused
  intro s a v
  simp only [List.forall_mem_cons, List.not_mem_nil, false_implies, implies_true, and_true]
  refine ⟨fun h => ⟨⟨?attach, ?throttle⟩, ?dirset, ?latch⟩, fun h => ?refused, _, rfl⟩
  case attach => exact exec_attach_completes h a
  case throttle => exact exec_setThrottle_completes h a v
  case dirset => exact ⟨_, exec_dirset_eq h a, nofun⟩
  case latch => exact ⟨_, exec_latch_eq h a v, nofun⟩
  case refused =>
    obtain ⟨e, he, hrefused⟩ := hostOperation_refused h
    exact ⟨e, he, fun _ _ => ⟨hrefused _, hrefused _, hrefused _, hrefused _⟩⟩

/-- Settles O27: the waiting item leaves the turn to the interrupt, and the sequencer's state names the step of a burst. -/
theorem interruptGoesBeforeTheHost : Obligations.InterruptGoesBeforeTheHost := by
  unfold Obligations.InterruptGoesBeforeTheHost
  intro s x rest hin
  refine ⟨fun hidle hie hpend hx => ?accept, fun hx => ?burst, Block.awaitStep_now⟩
  case accept => exact step_of_acceptable hin hx (Block.interruptAcceptable_iff.2 ⟨hidle, hie, hpend⟩)
  case burst =>
    have hemitting {ph : Phase} {i : Instr} (hi : Tx.nextStep { s.block.tx with state := .emit, phase := ph } = some i)
        (hemit : s.block.tx.state = .emit) (hph : s.block.tx.phase = ph) : step s = exec i s.awaitStep := by
      rw [← hemit, ← hph] at hi
      exact step_of_nextStep hin hx (by simp [hemit]) hi
    exact ⟨fun harmed => step_of_nextStep hin hx (by simp [harmed]) (by simp [Tx.nextStep, harmed]), hemitting rfl, hemitting rfl,
      hemitting rfl, hemitting rfl⟩

end Sys2Proof.Proofs
end

section
/-!
PROOF. What reset leaves (70_reset_and_hazards.md rule R126): on every platform, and for every free value of `PORT` and `DIR`, a block
whose timer's phase is within its period meets both parts of the invariant.
-/
namespace Sys2Proof.Machine

section
variable {w : Nat} (port dir : BitVec w) (phase : Time)

/-- Neither a burst nor an operation of the host is in progress after reset (R17, R18). -/
theorem Block.reset_hostReady : (Block.reset port dir phase).HostReady := ⟨rfl, rfl⟩

/-- The timeline is zero after reset (R10). -/
theorem Block.reset_timeline_getElem (i : Slot) : (Block.reset port dir phase).timeline[i] = 0 :=
  Vector.getElem_replicate i.isLt

/-- A timeline of zeros stores the frame 0 for every lane (R49). -/
theorem storedFrame_of_zero {timeline : Vector (BitVec w) 16} (h : ∀ i : Slot, timeline[i] = 0) (b : Lane) :
    storedFrame timeline b = 0 :=
  eq_of_frameBit_eq fun i => (frameBit_storedFrame ..).trans (by rw [h i]; simp [frameBit])

end

section
variable {p : Platform} (port dir : BitVec p.portW) {phase : Time}

/-- After reset no lane is active (R22 (a), R71), and no operation is in progress (R75, R79). -/
theorem Block.reset_bankInv : (Block.reset port dir phase).BankInv p where
  lanes := { one_active := fun _ => .inl rfl, output := BitVec.zero_and, timer := fun hactive => absurd rfl hactive }
  attach := nofun
  throttle := nofun

/-- After reset the sequencer is idle and nothing pends, and no burst has been entered, so the trace is empty (R22 (b), R86, R94). -/
theorem Block.reset_burstInv (hphase : 0 < p.timing.tFrame → 0 ≤ phase ∧ phase < p.timing.tFrame) :
    (Block.reset port dir phase).BurstInv p where
  masked := ⟨nofun, fun hburst => absurd rfl hburst⟩
  exit := nofun
  firing := fun h => h.elim nofun fun hburst => absurd rfl hburst
  count := rfl
  numbers := nofun
  phase := hphase
  clock := fun hburst => absurd rfl hburst

end

/-- The invariant holds at reset: the free phase is taken within the timer's period (R19). -/
theorem State.reset_inv : State.reset.Inv :=
  Block.inv_iff.2 ⟨Block.reset_bankInv .., Block.reset_burstInv _ _ fun hperiod => phaseOf_bound hperiod Config.tmrCount0⟩

end Sys2Proof.Machine

namespace Sys2Proof.Proofs
open Sys2Proof Sys2Proof.Machine

/-- Settles O29: the invariant in its two parts, and the frame of a lane bit by bit from the zero timeline. -/
theorem resetLeavesNothingAttached : Obligations.ResetLeavesNothingAttached := by
  unfold Obligations.ResetLeavesNothingAttached
  have hzero (i : Slot) : State.reset.block.timeline[i] = 0 := Block.reset_timeline_getElem _ _ _ i
  exact ⟨State.reset_inv, Block.reset_hostReady .., hzero, rfl, rfl, rfl, rfl, rfl, rfl, storedFrame_of_zero hzero⟩

end Sys2Proof.Proofs
end
